-- ==== Sys2Proof/Word.lean ====
section
/-! DEFINITION. The byte of the two-wire bus, and the one rounding rule of the duty arithmetic. -/

namespace Sys2Proof

/-- One byte of a frame. -/
abbrev Byte := BitVec 8

/-- `ceil (a / 256)`, the rounding of the duty arithmetic (00_scope section 5.2). -/
def ceilDiv256 (a : Nat) : Nat := (a + 255) / 256

end Sys2Proof
end

