-- ==== Sys2Proof/Syntax.lean ====
section
/-! DEFINITION. The commands the part takes: one constructor of `Instr` for each row of the table of operations and events. -/

namespace Sys2Proof

/-- An allotment slot; slot number 1 to 32 is the index plus one (01 section 1.1). -/
abbrev SlotIx := Fin 32

/-- A channel, 0 to 15. -/
abbrev ChannelIx := Fin 16

/-- A client slot; slot number 1 to 8 is the index plus one (07 section 7.1). -/
abbrev ClientIx := Fin 8

/-- Who sent a request, as the identity check found it (R131). -/
inductive Sender where
  | supervisor
  | client (c : ClientIx)
deriving DecidableEq, Repr

/-- The bus condition at a byte boundary that ends a write phase or a read phase (R149, 8.2.1). -/
inductive PhaseEnd where
  /-- A repeated START with the part's own address and the read direction. -/
  | restartRead
  /-- A repeated START with the part's own address and the write direction. -/
  | restartWrite
  /-- A repeated START with another address. -/
  | restartOther
  /-- A STOP. -/
  | stop
deriving DecidableEq, Repr

/-- The commands. A request carries its sender and its payload bytes as they stand in the frame (10.2);
it is the event in which the owning block carries the request out (R158). -/
inductive Instr where
  | claim (snd : Sender) (payload : List Byte)
  | query (snd : Sender) (payload : List Byte)
  | reshape (snd : Sender) (payload : List Byte)
  | release (snd : Sender) (payload : List Byte)
  | retry (snd : Sender) (payload : List Byte)
  | scan (snd : Sender) (payload : List Byte)
  | join (snd : Sender) (payload : List Byte)
  | leave (snd : Sender) (payload : List Byte)
  | ping (snd : Sender) (payload : List Byte)
  | setClient (snd : Sender) (payload : List Byte)
  | setChannel (snd : Sender) (payload : List Byte)
  | setTiming (snd : Sender) (payload : List Byte)
  | clearFault (snd : Sender) (payload : List Byte)
  | setLimits (snd : Sender) (payload : List Byte)
  | setClasses (snd : Sender) (payload : List Byte)
  | commit (snd : Sender) (payload : List Byte)
  | halt (snd : Sender) (payload : List Byte)
  | restart (snd : Sender) (payload : List Byte)
  /-- The control unit carries out the reset that RESTART ordered (R173). -/
  | restartReset
  /-- START and the part's own address with the write direction (R148). -/
  | startOwnWrite
  /-- The master writes one byte (R148). -/
  | writeByte (b : Byte)
  /-- The write phase ends and its frame is handled (R149). -/
  | writePhaseEnd (e : PhaseEnd)
  /-- The reply to the handled frame comes into hand (R150). -/
  | replyInHand
  /-- A read that follows no write phase (R152). -/
  | bareRead
  /-- The master's acknowledge bit after a sent byte: ACK when `ack` (R151). -/
  | readByteAck (ack : Bool)
  /-- The read phase ends at a byte boundary (R151). -/
  | readPhaseEnd (e : PhaseEnd)
  /-- A START or STOP inside a byte (R162). -/
  | busError
  /-- The exchange timer expires (R163). -/
  | exchangeTimerExpiry
  /-- DERATEn goes low (R27). -/
  | deratenFalls
  /-- DERATEn goes high (R28). -/
  | deratenRises
  /-- The derate hold timer expires (R29). -/
  | holdExpiry
  /-- The fault input of a channel goes low (R114, R115). -/
  | faultInputActive (n : ChannelIx)
  /-- The fault input of a channel goes high (R114). -/
  | faultInputInactive (n : ChannelIx)
  /-- RESETn goes low (R176). -/
  | resetnFalls
  /-- RESETn goes high (R176). -/
  | resetnRises
  /-- The supply becomes valid (R177). -/
  | supplyValid
  /-- The supply falls below its valid level (R177). -/
  | supplyFailure
  /-- Power-on start-up completes (R177). -/
  | startupEnd
  /-- The frame counter returns to 0 (R99). -/
  | frameStart
  /-- The frame start at which the ramp counter reaches 0 (R103). -/
  | stepFrameStart
  /-- The engine takes the settled report of a channel (R72). -/
  | settledReport (n : ChannelIx)
  /-- 100 ms of counted time of a slot's run timer have accumulated (R76). -/
  | runTimerTenth (i : SlotIx)
  /-- The remaining run time of a slot reaches 0 (R78). -/
  | runLimitExpiry (i : SlotIx)
  /-- The window timer of a client reaches 0 (R138). -/
  | windowExpiry (c : ClientIx)
  /-- The frame counter advances one count (R99, R100). -/
  | frameCountAdvance
deriving DecidableEq, Repr

end Sys2Proof
end

