-- ==== Sys2Proof/Decode.lean ====
section
/-! DEFINITION. The decoder the host asks for. The part is a block: its table of operations gives no row any bits,
so no word spells a command (log entry 20). -/

namespace Sys2Proof

/-- The rows of the table that give bits, each with its width and its word: there is none. -/
def tableWords : List (Nat × Nat × Instr) := []

/-- The command that the `nbits` bits of `w` spell by the table: the row of that width and that word. -/
def decodeTableWord (nbits w : Nat) : Option Instr :=
  (tableWords.find? fun row => row.1 == nbits && row.2.1 == w).map fun row => row.2.2

end Sys2Proof
end

