-- ==== Sys2Proof/Config.lean ====
section
/-! DEFINITION. The capacities and constants the spec fixes for every part (00_scope section 7).
The spec leaves no value to an implementation that the part's behaviour shows, so nothing here is a free value. -/

namespace Sys2Proof.Config

/-- Bytes the frame buffer holds; a 25th byte is not acknowledged (R148). -/
def frameBufferBytes : Nat := 24

/-- Bytes of a request frame around its payload: four header bytes and the frame check byte (10.1). -/
def frameOverhead : Nat := 5

/-- Most payload bytes a request frame can carry (10.1). -/
def maxRequestPayload : Nat := 19

/-- The exchange timer in ms (R163). -/
def exchangeTimerMs : Nat := 50

/-- Unit of the derate hold in ms (R28). -/
def holdUnitMs : Nat := 10

/-- Unit of a client's window in ms (R137). -/
def windowUnitMs : Nat := 100

/-- Greatest ceiling, derated ceiling and quota (R31, R132). -/
def maxUnits : Nat := 4095

/-- Greatest rating of an enabled channel (R97). -/
def maxRating : Nat := 1023

/-- The ramp step of a channel after a reset (R95). -/
def resetRampStep : Nat := 8

/-- The ramp counter after a reset, the frames per interval of 4 kHz and 1 ms (R103). -/
def resetRampCounter : Nat := 4

/-- Counts of the output frame (5.3). -/
def frameCounts : Nat := 256

/-- Counts between the start counts of neighbouring phase slots (R100). -/
def phaseSpacing : Nat := 32

/-- Bus address with every strap low (R145). -/
def busAddressBase : Nat := 0x58

/-- Filler byte sent after the last byte of a reply (R151). -/
def filler : Byte := 0xFF#8

/-- Where a client's retired count saturates (R140). -/
def maxRetired : Nat := 255

end Sys2Proof.Config
end

