-- ==== Sys2Proof/Machine/Blocks.lean ====
section
/-! DEFINITION. The records of the six blocks, as plain data: allotment engine, limit unit, output stage, client table,
exchange port, control unit, and the levels of the pins. -/

namespace Sys2Proof.Machine

/-! ### Allotment engine (chapters 1 to 4) -/

/-- A class, 0 to 5. -/
abbrev ClassIx := Fin 6

/-- A phase slot, 0 to 7. -/
abbrev PhaseIx := Fin 8

/-- The state a fall ends in (R13). -/
inductive FallOutcome where
  | free | waiting | reduced | running
deriving DecidableEq, Repr

/-- The state of an allotment. The outcome is present in FALLING and in no other state (R13). -/
inductive AllotState where
  | free | waiting | staged | rising | running | reduced
  | falling (o : FallOutcome)
  | tripped
deriving DecidableEq, Repr

/-- The name of an allotment: its slot and the generation the slot had at CLAIM (01 section 1.2). -/
structure Handle where
  slot : SlotIx
  generation : Byte
deriving DecidableEq, Repr

/-- One channel of an allotment with the duty its owner asks for and the duty last commanded (R7, R12). -/
structure Term where
  channel : ChannelIx
  requested : Nat
  target : Nat
deriving DecidableEq, Repr

/-- The floor in sixteenths with the floor cost, which exist together (R1). -/
structure FloorPart where
  fraction : Nat
  cost : Nat
deriving DecidableEq, Repr

/-- The run limit and the remaining run time, in tenths of a second, and the milliseconds counted toward
the next tenth (R76). They exist together (R1). -/
structure RunTimer where
  limit : Nat
  remaining : Nat
  counted : Nat
deriving DecidableEq, Repr

/-- A record of the allotment table (01 section 1.1), with the command identity and the unsettled set that
the engine keeps for the slot (R69). -/
structure Allotment where
  generation : Byte
  owner : Option ClientIx
  cls : ClassIx
  terms : List Term
  floor : Option FloorPart
  requestCost : Nat
  run : Option RunTimer
  tag : Option (BitVec 16)
  state : AllotState
  charge : Nat
  changed : Bool
  commandId : BitVec 16
  unsettled : List ChannelIx
deriving DecidableEq, Repr

/-- The allotment engine: its table, the channel binding map (R10), the wait queue (R45), the grant list (R49),
the stage (R62), the committed charge (R35) and the class levels (R41). -/
structure Engine where
  allots : Vector Allotment 32
  binding : Vector (Option Handle) 16
  queue : List Handle
  grants : List Handle
  stage : Option Handle
  committed : Nat
  levels : Vector (Fin 4) 6
deriving DecidableEq, Repr

/-! ### Limit unit (chapter 2) -/

/-- The derate states (02 section 2.2). -/
inductive DerateState where
  | normal | derated | holding
deriving DecidableEq, Repr

/-- The six items of the limit unit (02 section 2.1). The hold timer is in ms. -/
structure LimitUnit where
  configured : Nat
  derated : Nat
  hold : Nat
  derate : DerateState
  holdTimer : Option Nat
  effective : Nat
deriving DecidableEq, Repr

/-! ### Output stage (chapter 5) -/

/-- The channel states; FAULTED is the fault latch itself (R114). -/
inductive ChannelState where
  | off | rise | on | fall | faulted
deriving DecidableEq, Repr

/-- A channel record (05 section 5.1), with the duty fixed for the pulse of the frame in progress and the counts of
the pulse before it that run into this frame (R99, R100). -/
structure Channel where
  enabled : Bool
  rating : Nat
  step : Nat
  state : ChannelState
  applied : Nat
  target : Nat
  command : Option (BitVec 16)
  reportDue : Bool
  phase : Option PhaseIx
  pulse : Nat
  tail : Nat
deriving DecidableEq, Repr

/-- The frame rates of SET_TIMING (05 section 5.4). -/
inductive FrameRate where
  | khz16 | khz4 | khz1
deriving DecidableEq, Repr

/-- The ramp intervals of SET_TIMING (05 section 5.4). -/
inductive RampInterval where
  | ms1 | ms2 | ms4 | ms8
deriving DecidableEq, Repr

/-- A frame rate with a ramp interval (R102). -/
structure Timing where
  rate : FrameRate
  interval : RampInterval
deriving DecidableEq, Repr

/-- A settled report made by the output stage (R107). -/
structure Report where
  channel : ChannelIx
  command : Option (BitVec 16)
  applied : Nat
deriving DecidableEq, Repr

/-- The output stage: channel records, the timing in force and the timing stored for the next frame start (R102),
the frame counter (R99), the ramp counter (R103), and the settled reports the engine has not taken yet (R107). -/
structure OutputStage where
  channels : Vector Channel 16
  timing : Timing
  nextTiming : Option Timing
  frameCount : Nat
  rampCounter : Nat
  reports : List Report
deriving DecidableEq, Repr

/-! ### Client table (chapter 7) -/

/-- The client states (07 section 7.2). -/
inductive ClientState where
  | unset | idle | active | lapsed
deriving DecidableEq, Repr

/-- A client record (07 section 7.1). The window timer is in ms. -/
structure Client where
  id : Option Byte
  quota : Nat
  window : Nat
  alert : Bool
  state : ClientState
  claimed : Nat
  retired : Nat
  timer : Option Nat
deriving DecidableEq, Repr

/-- The three blocks on which every event of the engine acts in one step: the engine itself, the output stage it
commands, and the client table it reports to (00_scope section 4.2). -/
structure Plant where
  eng : Engine
  out : OutputStage
  clients : Vector Client 8
deriving DecidableEq, Repr

/-! ### Exchange port (chapter 8) -/

/-- The requests (10.2). -/
inductive Request where
  | claim | query | reshape | release | retry | scan | join | leave | ping
  | setClient | setChannel | setTiming | clearFault | setLimits | setClasses | commit | halt | restart
deriving DecidableEq, Repr

/-- The status codes (10.5). -/
inductive Status where
  | ok | checkFail | badLength | unknownRequest | badField | notClient | seqReuse | supervisorOnly
  | clientOnly | notJoined | lapsed | notRunning | notSetup | staleHandle | notOwner | wrongState
  | tableFull | channelHeld | channelDisabled | channelFault | overQuota | overCeiling | noRoom | quotaInUse
deriving DecidableEq, Repr

/-- What the owning block returns for a request (R158). -/
structure BlockReply where
  status : Status
  payload : List Byte
deriving DecidableEq, Repr

/-- The port states (R147). -/
inductive PortState where
  | idle | rx | exec | tx | summary
deriving DecidableEq, Repr

/-- A reply slot's contents: the last frame carried out for its sender and the reply built for it (R160). -/
structure ReplySlot where
  sequence : Byte
  request : List Byte
  reply : List Byte
deriving DecidableEq, Repr

/-- A request that has passed the port's checks and is with its owning block, not carried out yet (R158). -/
structure Handed where
  sender : Sender
  request : Request
  payload : List Byte
  sequence : Byte
  frame : List Byte
deriving DecidableEq, Repr

/-- What an address byte after which the port holds SCL waits for (R148, R149, R152). -/
inductive HeldFor where
  | write | read
deriving DecidableEq, Repr

/-- The exchange port (08 section 8.2). `inHand` is the reply or the summary frame being sent, `position` the byte of it
being sent, `stopped` set by the master's NACK (R151). `handed` and `built` are the request with its owning block and
the reply built for it and not yet in hand. `restartReply` marks the exchange of an accepted RESTART (R165).
`acked` is the acknowledge bit the port last drove. The exchange timer is in ms. -/
structure Port where
  state : PortState
  buffer : List Byte
  overLength : Bool
  inHand : Option (List Byte)
  position : Nat
  stopped : Bool
  timer : Option Nat
  handling : Bool
  handed : Option Handed
  built : Option (List Byte)
  held : Option HeldFor
  restartReply : Bool
  acked : Bool
  supervisorSlot : Option ReplySlot
  clientSlots : Vector (Option ReplySlot) 8
  address : Nat
deriving DecidableEq, Repr

/-! ### Control unit (chapter 9) -/

/-- The part states (R166). -/
inductive PartState where
  | setup | run
deriving DecidableEq, Repr

/-- The reset causes (R175). -/
inductive ResetCause where
  | powerOn | resetPin | restart
deriving DecidableEq, Repr

/-- The control unit. `powerOnPending` holds from a supply failure to the end of start-up (R177). -/
structure Control where
  part : PartState
  cause : ResetCause
  restartPending : Bool
  powerOnPending : Bool
deriving DecidableEq, Repr

/-! ### Pins -/

/-- The levels driven from outside (00_scope section 6.1). -/
structure Pins where
  derateLow : Bool
  faultLow : Vector Bool 16
  resetnHigh : Bool
  supplyOk : Bool
  strapA0 : Bool
  strapA1 : Bool
  strapA2 : Bool
deriving DecidableEq, Repr

end Sys2Proof.Machine
end

