-- ==== Sys2Proof/Machine/ResetValues.lean ====
section
/-! DEFINITION. The values every block takes when a reset ends (R175). -/

namespace Sys2Proof.Machine

/-- The contents of a FREE record with generation 0 and owner 0 (R3). The class and the request cost, which a FREE
record does not hold, are 0 in the model's record (log entry 17). -/
def Allotment.reset : Allotment where
  generation := 0
  owner := none
  cls := 0
  terms := []
  floor := none
  requestCost := 0
  run := none
  tag := none
  state := .free
  charge := 0
  changed := false
  commandId := 0
  unsettled := []

/-- R3, R35, R41, R45, R49, R62. -/
def Engine.reset : Engine where
  allots := Vector.replicate 32 Allotment.reset
  binding := Vector.replicate 16 none
  queue := []
  grants := []
  stage := none
  committed := 0
  levels := Vector.replicate 6 0

/-- R25: the derate state is read from the level of DERATEn. -/
def LimitUnit.reset (derateLow : Bool) : LimitUnit where
  configured := 0
  derated := 0
  hold := 0
  derate := if derateLow then .derated else .normal
  holdTimer := none
  effective := 0

/-- R95. -/
def Channel.reset : Channel where
  enabled := false
  rating := 0
  step := Config.resetRampStep
  state := .off
  applied := 0
  target := 0
  command := none
  reportDue := false
  phase := none
  pulse := 0
  tail := 0

/-- R95, R99, R102, R103; reports in flight are ended (R174). -/
def OutputStage.reset : OutputStage where
  channels := Vector.replicate 16 Channel.reset
  timing := ⟨.khz4, .ms1⟩
  nextTiming := none
  frameCount := 0
  rampCounter := Config.resetRampCounter
  reports := []

/-- R129. -/
def Client.reset : Client where
  id := none
  quota := 0
  window := 0
  alert := false
  state := .unset
  claimed := 0
  retired := 0
  timer := none

/-- The engine, the output stage and the client table after a reset. -/
def Plant.reset : Plant where
  eng := Engine.reset
  out := OutputStage.reset
  clients := Vector.replicate 8 Client.reset

/-- R145: 58h + 4 A2 + 2 A1 + A0. -/
def Pins.busAddress (p : Pins) : Nat :=
  Config.busAddressBase + 4 * p.strapA2.toNat + 2 * p.strapA1.toNat + p.strapA0.toNat

/-- R147, with the bus address given. -/
def Port.reset (address : Nat) : Port where
  state := .idle
  buffer := []
  overLength := false
  inHand := none
  position := 0
  stopped := false
  timer := none
  handling := false
  handed := none
  built := none
  held := none
  restartReply := false
  acked := false
  supervisorSlot := none
  clientSlots := Vector.replicate 8 none
  address := address

/-- The pin levels of `State.reset`: supply valid, RESETn and DERATEn high, no fault input active, straps low
(DESIGN CHOICE, log entry 4). -/
def Pins.atReset : Pins where
  derateLow := false
  faultLow := Vector.replicate 16 false
  resetnHigh := true
  supplyOk := true
  strapA0 := false
  strapA1 := false
  strapA2 := false

end Sys2Proof.Machine
end

