-- ==== Sys2Proof/Machine/State.lean ====
section
/-! DEFINITION. The state of the part, the reasons a command could stop for, and the state right after reset. -/

namespace Sys2Proof.Machine

/-- Everything the spec gives the part, and the queue of commands that wait, first in, first out.
`returned` is what the owning block last returned for a request (R158; log entry 19). -/
structure State where
  plant : Plant
  lim : LimitUnit
  port : Port
  ctl : Control
  pins : Pins
  returned : Option BlockReply
  pending : List Instr
deriving DecidableEq, Repr

/-- Reasons to stop with a fault: none. Every event of the part has an effect or none, and every request is answered
with a status, so no meaning faults. -/
inductive Fault where
deriving DecidableEq, Repr

/-- Reasons to refuse. -/
inductive Refusal where
  /-- Raised by an arm of `exec` for a command that has no meaning yet; safe. No arm raises it now. -/
  | notModelled (mnemonic : String)
deriving DecidableEq, Repr

/-- The part right after power-on start-up with the pins of log entry 4, and nothing waiting. -/
def State.reset : State where
  plant := Plant.reset
  lim := LimitUnit.reset Pins.atReset.derateLow
  port := Port.reset Pins.atReset.busAddress
  ctl := { part := .setup, cause := .powerOn, restartPending := false, powerOnPending := false }
  pins := Pins.atReset
  returned := none
  pending := []

end Sys2Proof.Machine
end

