-- ==== Sys2Proof/Machine/Operands.lean ====
section
/-! DEFINITION. Reading the fields of a request payload and writing the fields of a reply payload (chapter 10):
byte order, the codes of 10.2, 10.3 and 10.5, handles, and the parsed CLAIM payload. -/

namespace Sys2Proof.Machine

/-! ### Bytes and 16-bit fields, most significant byte first (R178) -/

/-- The byte at offset `k` of a payload, as a number. A block reads it only below the payload's length. -/
def byteAt (p : List Byte) (k : Nat) : Nat := (p.getD k 0).toNat

/-- The 16-bit field at offset `k`, most significant byte first. -/
def wordAt (p : List Byte) (k : Nat) : Nat := 256 * byteAt p k + byteAt p (k + 1)

/-- A one-byte field of a reply. -/
def byte (n : Nat) : Byte := BitVec.ofNat 8 n

/-- A two-byte field of a reply, most significant byte first. -/
def word (n : Nat) : List Byte := [byte (n / 256), byte n]

/-- A flag byte (10.3). -/
def flag (b : Bool) : Byte := if b then 1 else 0

/-! ### Codes of 10.2, 10.3 and 10.5 -/

/-- Request codes (10.2). -/
def Request.code : Request → Byte
  | .claim => 0x01 | .query => 0x02 | .reshape => 0x03 | .release => 0x04 | .retry => 0x05 | .scan => 0x06
  | .join => 0x10 | .leave => 0x11 | .ping => 0x12 | .setClient => 0x13
  | .setChannel => 0x20 | .setTiming => 0x21 | .clearFault => 0x22
  | .setLimits => 0x28 | .setClasses => 0x29
  | .commit => 0x30 | .halt => 0x31 | .restart => 0x32

/-- Every request of 10.2. -/
def allRequests : List Request :=
  [.claim, .query, .reshape, .release, .retry, .scan, .join, .leave, .ping, .setClient, .setChannel, .setTiming,
   .clearFault, .setLimits, .setClasses, .commit, .halt, .restart]

/-- The request a code names, none for every other code (R158). -/
def Request.ofCode (b : Byte) : Option Request := allRequests.find? fun r => r.code == b

/-- Status codes (10.5). -/
def Status.code : Status → Byte
  | .ok => 0x00 | .checkFail => 0x01 | .badLength => 0x02 | .unknownRequest => 0x03 | .badField => 0x04
  | .notClient => 0x05 | .seqReuse => 0x06 | .supervisorOnly => 0x07 | .clientOnly => 0x08 | .notJoined => 0x09
  | .lapsed => 0x0A | .notRunning => 0x0B | .notSetup => 0x0C | .staleHandle => 0x0D | .notOwner => 0x0E
  | .wrongState => 0x0F | .tableFull => 0x10 | .channelHeld => 0x11 | .channelDisabled => 0x12
  | .channelFault => 0x13 | .overQuota => 0x14 | .overCeiling => 0x15 | .noRoom => 0x16 | .quotaInUse => 0x17

/-- Allotment state codes (10.3), as numbers. -/
def AllotState.code : AllotState → Nat
  | .free => 0 | .waiting => 1 | .staged => 2 | .rising => 3 | .running => 4 | .reduced => 5
  | .falling _ => 6 | .tripped => 7

/-- An outcome is carried as the code of the state it names (10.3). -/
def FallOutcome.code : FallOutcome → Nat
  | .free => 0 | .waiting => 1 | .running => 4 | .reduced => 5

/-- The outcome of a state, present in FALLING only (R13). -/
def AllotState.outcome? : AllotState → Option FallOutcome
  | .falling o => some o
  | .free | .waiting | .staged | .rising | .running | .reduced | .tripped => none

/-- The outcome byte, FFh where no outcome is present (10.3). -/
def AllotState.outcomeByte (a : AllotState) : Byte :=
  match a.outcome? with
  | some o => byte o.code
  | none => 0xFF

/-- Channel state codes (10.3). -/
def ChannelState.code : ChannelState → Byte
  | .off => 0 | .rise => 1 | .on => 2 | .fall => 3 | .faulted => 4

/-- Client state codes (10.3). -/
def ClientState.code : ClientState → Byte
  | .unset => 0 | .idle => 1 | .active => 2 | .lapsed => 3

/-- Derate state codes (10.3). -/
def DerateState.code : DerateState → Byte
  | .normal => 0 | .derated => 1 | .holding => 2

/-- Part state codes (10.3). -/
def PartState.code : PartState → Byte
  | .setup => 0 | .run => 1

/-- Reset cause codes (10.3). -/
def ResetCause.code : ResetCause → Byte
  | .powerOn => 1 | .resetPin => 2 | .restart => 3

/-- Frame rate codes (10.2, SET_TIMING). -/
def FrameRate.code : FrameRate → Byte
  | .khz16 => 0 | .khz4 => 1 | .khz1 => 2

/-- The frame rate a code names. -/
def FrameRate.ofCode (n : Nat) : Option FrameRate :=
  if n = 0 then some .khz16 else if n = 1 then some .khz4 else if n = 2 then some .khz1 else none

/-- Ramp interval codes (10.2, SET_TIMING). -/
def RampInterval.code : RampInterval → Byte
  | .ms1 => 0 | .ms2 => 1 | .ms4 => 2 | .ms8 => 3

/-- The ramp interval a code names. -/
def RampInterval.ofCode (n : Nat) : Option RampInterval :=
  if n = 0 then some .ms1 else if n = 1 then some .ms2 else if n = 2 then some .ms4
  else if n = 3 then some .ms8 else none

/-! ### Replies -/

/-- A reply of a bare status (R179). -/
def BlockReply.bare (st : Status) : BlockReply := { status := st, payload := [] }

/-- A reply with status OK. -/
def BlockReply.okWith (payload : List Byte) : BlockReply := { status := .ok, payload := payload }

/-! ### Handles, slots, channels -/

/-- The slot number 1 to 32 as a byte. -/
def slotByte (i : SlotIx) : Byte := byte (i.val + 1)

/-- The client slot number 1 to 8 as a byte, 0 for none. -/
def ownerByte : Option ClientIx → Byte
  | some c => byte (c.val + 1)
  | none => 0

/-- A channel number as a byte. -/
def channelByte (n : ChannelIx) : Byte := byte n.val

/-- The two bytes of a handle: slot number, then generation (10.2). -/
def Handle.bytes (h : Handle) : List Byte := [slotByte h.slot, h.generation]

/-- The handle bytes, 0000h where no allotment is named (10.2). -/
def handleBytes : Option Handle → List Byte
  | some h => h.bytes
  | none => [0, 0]

/-- The slot a slot number names, when it is 1 to 32 (R6). -/
def slotOfNumber (n : Nat) : Option SlotIx :=
  if h : 1 ≤ n ∧ n ≤ 32 then some ⟨n - 1, by omega⟩ else none

/-- The client slot a slot number names, when it is 1 to 8 (R132). -/
def clientOfNumber (n : Nat) : Option ClientIx :=
  if h : 1 ≤ n ∧ n ≤ 8 then some ⟨n - 1, by omega⟩ else none

/-- The channel a channel number names, when it is 0 to 15. -/
def channelOfNumber (n : Nat) : Option ChannelIx :=
  if h : n < 16 then some ⟨n, h⟩ else none

/-- A client as an optional owner: the sender's client slot. -/
def clientOf : Sender → Option ClientIx
  | .supervisor => none
  | .client c => some c

/-! ### The CLAIM payload (10.2) -/

/-- The presence flags byte of a CLAIM, bit `k`. -/
def claimFlag (p : List Byte) (k : Nat) : Bool := (p.getD 2 0).getLsbD k

/-- Offset of the first byte after the terms, from the count byte as received. -/
def claimTermsEnd (p : List Byte) : Nat := 3 + 2 * byteAt p 1

/-- Offset of the run limit. -/
def claimRunAt (p : List Byte) : Nat := claimTermsEnd p + (claimFlag p 0).toNat

/-- Offset of the tag. -/
def claimTagAt (p : List Byte) : Nat := claimRunAt p + 2 * (claimFlag p 1).toNat

/-- The length the layout gives (10.2); a payload shorter than its three fixed bytes fails before its count and flag
bytes are read (R178). -/
def claimLengthOk (p : List Byte) : Bool :=
  3 ≤ p.length && p.length == claimTagAt p + 2 * (claimFlag p 2).toNat

/-- The pairs of channel and requested duty, as numbers. -/
def claimPairs (p : List Byte) : List (Nat × Nat) :=
  (List.range (byteAt p 1)).map fun k => (byteAt p (3 + 2 * k), byteAt p (4 + 2 * k))

/-- The floor, when its flag is set. -/
def claimFloor (p : List Byte) : Option Nat :=
  if claimFlag p 0 then some (byteAt p (claimTermsEnd p)) else none

/-- The run limit, when its flag is set. -/
def claimRun (p : List Byte) : Option Nat :=
  if claimFlag p 1 then some (wordAt p (claimRunAt p)) else none

/-- The tag, when its flag is set. -/
def claimTag (p : List Byte) : Option (BitVec 16) :=
  if claimFlag p 2 then some (BitVec.ofNat 16 (wordAt p (claimTagAt p))) else none

/-- Order 5 of the CLAIM tests (R17): the ranges, no channel twice, unused flag bits zero. -/
def claimFieldsOk (p : List Byte) : Bool :=
  decide (1 ≤ byteAt p 1 ∧ byteAt p 1 ≤ 4)
  && decide (byteAt p 0 ≤ 5)
  && (claimPairs p).all (fun t => decide (t.1 ≤ 15) && decide (1 ≤ t.2))
  && (match claimFloor p with | some f => decide (1 ≤ f ∧ f ≤ 15) | none => true)
  && (match claimRun p with | some r => decide (1 ≤ r) | none => true)
  && decide ((claimPairs p).map (·.1)).Nodup
  && decide (byteAt p 2 < 8)

/-- The term list of a CLAIM that passed order 5, in the order given, every target 0 (R7, R19). -/
def claimTerms (p : List Byte) : List Term :=
  (claimPairs p).map fun t => { channel := Fin.ofNat 16 t.1, requested := t.2, target := 0 }

/-- The class of a CLAIM that passed order 5. -/
def claimClass (p : List Byte) : ClassIx := Fin.ofNat 6 (byteAt p 0)

/-! ### The RESHAPE payload (10.2) -/

/-- The new requested duties, in term list order. -/
def reshapeDuties (p : List Byte) : List Nat := (p.drop 2).map BitVec.toNat

end Sys2Proof.Machine
end

