-- ==== Sys2Proof/Machine/Ops.lean ====
section
/-! DEFINITION. The named operations over the records: reading and updating one allotment, channel or client, cost
arithmetic, ranks, the places of the wait queue, the binding map, and the commands the output stage takes. -/

namespace Sys2Proof.Machine

/-! ### One record at a time -/

/-- The allotment slots in ascending order. -/
def allSlots : List SlotIx := List.finRange 32

/-- The channels in ascending order. -/
def allChannels : List ChannelIx := List.finRange 16

/-- The client slots in ascending order. -/
def allClients : List ClientIx := List.finRange 8

def Plant.allot (p : Plant) (i : SlotIx) : Allotment := p.eng.allots[i]

def Plant.chan (p : Plant) (n : ChannelIx) : Channel := p.out.channels[n]

def Plant.client (p : Plant) (c : ClientIx) : Client := p.clients[c]

/-- Replace the record of slot `i`. -/
def Plant.setAllot (p : Plant) (i : SlotIx) (a : Allotment) : Plant :=
  { p with eng := { p.eng with allots := p.eng.allots.set i a } }

/-- Replace the record of channel `n`. -/
def OutputStage.setChan (o : OutputStage) (n : ChannelIx) (c : Channel) : OutputStage :=
  { o with channels := o.channels.set n c }

/-- Replace the record of channel `n`. -/
def Plant.setChan (p : Plant) (n : ChannelIx) (c : Channel) : Plant := { p with out := p.out.setChan n c }

/-- Replace the record of client slot `c`. -/
def Plant.setClient (p : Plant) (c : ClientIx) (x : Client) : Plant := { p with clients := p.clients.set c x }

/-- The handle of the allotment in slot `i`: the slot with its present generation (R4). -/
def Plant.handleOf (p : Plant) (i : SlotIx) : Handle := { slot := i, generation := (p.allot i).generation }

/-- The lowest-numbered FREE slot (R4). -/
def Plant.lowestFree (p : Plant) : Option SlotIx := allSlots.find? fun i => (p.allot i).state == .free

/-! ### Costs (R8, R9, R33, R34) -/

/-- The cost of a channel at a duty: ceil(rating x duty / 256). -/
def costAt (rating duty : Nat) : Nat := ceilDiv256 (rating * duty)

/-- The sum over terms of the cost at the duty `d` gives each. -/
def Plant.costOf (p : Plant) (terms : List Term) (d : Term → Nat) : Nat :=
  (terms.map fun t => costAt (p.chan t.channel).rating (d t)).sum

/-- R8. -/
def Plant.requestCostOf (p : Plant) (terms : List Term) : Nat := p.costOf terms (·.requested)

/-- The floor duty of a requested duty at a floor of `f` sixteenths (R9). -/
def floorDuty (f duty : Nat) : Nat := max 1 (duty * f / 16)

/-- R9. -/
def Plant.floorCostOf (p : Plant) (terms : List Term) (f : Nat) : Nat :=
  p.costOf terms fun t => floorDuty f t.requested

/-- The floor part of a record: the fraction with its cost, absent without a floor (R9). -/
def Plant.floorPart (p : Plant) (terms : List Term) (f : Option Nat) : Option FloorPart :=
  f.map fun x => { fraction := x, cost := p.floorCostOf terms x }

/-- The duty a reduction commands for a term: its floor duty; without a floor there is none, and the requested
duty stands in its place (an allotment without a floor is never reduced, R9). -/
def Allotment.floorDutyOf (a : Allotment) (t : Term) : Nat :=
  match a.floor with
  | some fl => floorDuty fl.fraction t.requested
  | none => t.requested

/-- The floor cost, 0 without a floor. -/
def Allotment.floorCost (a : Allotment) : Nat :=
  match a.floor with
  | some fl => fl.cost
  | none => 0

/-- The charge after settling of a FALLING allotment, by its outcome (R34). -/
def Allotment.chargeAfter (a : Allotment) : FallOutcome → Nat
  | .running => a.requestCost
  | .reduced => a.floorCost
  | .waiting => 0
  | .free => 0

/-- The transition charge toward the targets `d`: each term at the greater of the duty applied now and its
target (R34). -/
def Plant.transitionCharge (p : Plant) (terms : List Term) (d : Term → Nat) : Nat :=
  p.costOf terms fun t => max (p.chan t.channel).applied (d t)

/-- Set the charge of slot `i` and move the committed charge by the difference (R35). -/
def Plant.setCharge (p : Plant) (i : SlotIx) (c : Nat) : Plant :=
  { p with eng := { p.eng with
      allots := p.eng.allots.set i { p.eng.allots[i] with charge := c }
      committed := p.eng.committed - p.eng.allots[i].charge + c } }

/-- The request cost of the staged allotment, 0 while the stage is empty (R62). -/
def Plant.reserve (p : Plant) : Nat :=
  match p.eng.stage with
  | some h => (p.allot h.slot).requestCost
  | none => 0

/-! ### Ranks (R41) -/

/-- Class `a` ranks above class `b`. -/
def ranksAbove (levels : Vector (Fin 4) 6) (a b : ClassIx) : Bool :=
  decide (levels[b] < levels[a]) || (decide (levels[a] = levels[b]) && decide (a < b))

/-- The six classes from highest rank to lowest. -/
def classesByRank (levels : Vector (Fin 4) 6) : List ClassIx :=
  ([3, 2, 1, 0] : List (Fin 4)).flatMap fun l => (List.finRange 6).filter fun c => levels[c] = l

/-- The class of the allotment a handle names. -/
def Plant.classOf (p : Plant) (h : Handle) : ClassIx := (p.allot h.slot).cls

/-! ### The wait queue (R45 to R48), the grant list (R49, R50) and the stage (R62) -/

/-- The back of the rank of class `c`: before the first entry of lower rank, or at the tail. In a queue ordered by
rank (R45) this stands immediately behind the last entry of the class (R46). -/
def placeBack (p : Plant) (c : ClassIx) (h : Handle) : List Handle → List Handle
  | [] => [h]
  | e :: rest =>
    if ranksAbove p.eng.levels c (p.classOf e) then h :: e :: rest else e :: placeBack p c h rest

/-- The front of the rank of class `c`: before the first entry of the class or of lower rank, or at the
tail (R47). -/
def placeFront (p : Plant) (c : ClassIx) (h : Handle) : List Handle → List Handle
  | [] => [h]
  | e :: rest =>
    if p.classOf e = c || ranksAbove p.eng.levels c (p.classOf e) then h :: e :: rest
    else e :: placeFront p c h rest

/-- Slot `i` joins the wait queue at the back of its rank (R46). -/
def Plant.queueBack (p : Plant) (i : SlotIx) : Plant :=
  { p with eng := { p.eng with queue := placeBack p (p.allot i).cls (p.handleOf i) p.eng.queue } }

/-- Slot `i` joins the wait queue at the front of its rank (R47). -/
def Plant.queueFront (p : Plant) (i : SlotIx) : Plant :=
  { p with eng := { p.eng with queue := placeFront p (p.allot i).cls (p.handleOf i) p.eng.queue } }

/-- Slot `i` leaves the wait queue (R48). -/
def Plant.leaveQueue (p : Plant) (i : SlotIx) : Plant :=
  { p with eng := { p.eng with queue := p.eng.queue.filter fun h => h.slot ≠ i } }

/-- Slot `i` joins the grant list at the back (R49). -/
def Plant.joinGrants (p : Plant) (i : SlotIx) : Plant :=
  { p with eng := { p.eng with grants := p.eng.grants ++ [p.handleOf i] } }

/-- Slot `i` leaves the grant list (R50). -/
def Plant.leaveGrants (p : Plant) (i : SlotIx) : Plant :=
  { p with eng := { p.eng with grants := p.eng.grants.filter fun h => h.slot ≠ i } }

/-- Write the stage (R62). -/
def Plant.setStage (p : Plant) (h : Option Handle) : Plant := { p with eng := { p.eng with stage := h } }

/-- The queue regrouped by rank, each class keeping its own order (R43). -/
def Plant.regroup (p : Plant) : Plant :=
  { p with eng := { p.eng with
      queue := (classesByRank p.eng.levels).flatMap fun c => p.eng.queue.filter fun h => p.classOf h = c } }

/-- The position of slot `i` in the wait queue, counted from 1, when it is WAITING or REDUCED, and 0
otherwise (R45, 10.3). -/
def Plant.queuePosition (p : Plant) (i : SlotIx) : Nat :=
  if (p.allot i).state = .waiting ∨ (p.allot i).state = .reduced then
    match p.eng.queue.findIdx? fun h => h.slot = i with
    | some k => k + 1
    | none => 0
  else 0

/-! ### The binding map (R10) -/

/-- Bind the channels of the terms to a handle, or empty their entries. -/
def Plant.bindTerms (p : Plant) (terms : List Term) (h : Option Handle) : Plant :=
  { p with eng := { p.eng with binding := terms.foldl (fun b t => b.set t.channel h) p.eng.binding } }

/-! ### Phase slots (R112, R113) -/

/-- The load of a phase slot: the sum of the ratings of its members (R112). -/
def OutputStage.load (o : OutputStage) (s : PhaseIx) : Nat :=
  ((allChannels.filter fun n => o.channels[n].phase = some s).map fun n => o.channels[n].rating).sum

/-- The lowest-numbered phase slot of least load (R113). -/
def OutputStage.leastLoaded (o : OutputStage) : PhaseIx :=
  (List.finRange 8).foldl (fun best s => if o.load s < o.load best then s else best) 0

/-! ### What the output stage does to one channel -/

/-- The settled reports channel `n` has made and the engine has not taken are discarded. R72 discards a report whose
transition a later command has replaced, or whose allotment has been cut, tripped or freed; the model does so in the event
that overtakes the report (log entry 13), HALT among them (R172). -/
def OutputStage.dropReports (o : OutputStage) (n : ChannelIx) : OutputStage :=
  { o with reports := o.reports.filter fun r => r.channel ≠ n }

/-- One channel of a transition command (R105, R110): a FAULTED channel takes nothing; otherwise the command identity
and the target are stored, and the channel turns to RISE, placed in a phase slot when it was OFF, to FALL, or keeps its
state with its report due. A report of the command before is discarded (R72). -/
def OutputStage.takeCommand (o : OutputStage) (n : ChannelIx) (target : Nat) (id : BitVec 16) : OutputStage :=
  let c := o.channels[n]
  if c.state = .faulted then o
  else
    let c' := { c with command := some id, target := target, reportDue := false }
    let o' := o.dropReports n
    if c.applied < target then
      o'.setChan n { c' with state := .rise, phase := if c.state = .off then some o.leastLoaded else c.phase }
    else if target < c.applied then o'.setChan n { c' with state := .fall }
    else o'.setChan n { c' with reportDue := true }

/-- A transition command naming every channel of the terms in list order, each with its target (R105). -/
def OutputStage.command (o : OutputStage) (terms : List Term) (d : Term → Nat) (id : BitVec 16) : OutputStage :=
  terms.foldl (fun o t => o.takeCommand t.channel (d t) id) o

/-- A channel taken to zero and OFF: no pulse, no tail, no phase slot, no command identity, no report due (R109,
R124, R126). -/
def Channel.cleared (c : Channel) : Channel :=
  { c with state := .off, applied := 0, target := 0, command := none, reportDue := false, phase := none,
           pulse := 0, tail := 0 }

/-- One channel of a cut command (R109): RISE, ON and FALL go OFF at zero; OFF stays with report due no, and without a
command identity, which is absent after a cut (the table of 5.1; log entry 14); FAULTED stays. -/
def Channel.cut (c : Channel) : Channel :=
  match c.state with
  | .rise | .on | .fall => c.cleared
  | .off => { c with reportDue := false, command := none }
  | .faulted => c

/-- A channel whose fault input latches it (R115, R110). -/
def Channel.latched (c : Channel) : Channel := { c.cleared with state := .faulted }

/-- A cut command naming channels (R109). Their reports not yet taken are of an allotment that has been cut (R72). -/
def OutputStage.cut (o : OutputStage) (ns : List ChannelIx) : OutputStage :=
  ns.foldl (fun o n => (o.dropReports n).setChan n o.channels[n].cut) o

/-- A fault input latches channel `n` (R115), and its report not yet taken is of an allotment that trips (R72). -/
def OutputStage.latch (o : OutputStage) (n : ChannelIx) : OutputStage :=
  (o.dropReports n).setChan n o.channels[n].latched

/-! ### Reports to the client table (R16, R136, R140) -/

/-- Adjust the claimed total of an owner: add the new request cost, subtract the old one (R136). -/
def Plant.adjustClaimed (p : Plant) (owner : Option ClientIx) (add sub : Nat) : Plant :=
  match owner with
  | none => p
  | some c => p.setClient c { p.client c with claimed := (p.client c).claimed + add - sub }

/-- A retire report: the owner's retired count rises by one and stays at 255 (R140). -/
def Plant.retire (p : Plant) (i : SlotIx) : Plant :=
  match (p.allot i).owner with
  | none => p
  | some c => p.setClient c { p.client c with retired := min Config.maxRetired ((p.client c).retired + 1) }

/-! ### Freeing a slot (R2, R5) -/

/-- The FREE contents of a record: owner and command identity kept, the generation advanced (R2, R5, R69). -/
def Allotment.freed (a : Allotment) : Allotment :=
  { Allotment.reset with generation := a.generation + 1, owner := a.owner, commandId := a.commandId }

/-- A slot becomes FREE (R2): its charge goes to 0, its channels are unbound, the freeing report lowers the owner's
claimed total, and the record takes its FREE contents. The caller has taken it out of the queue, the grant list or the
stage. -/
def Plant.freeSlot (p : Plant) (i : SlotIx) : Plant :=
  let a := p.allot i
  let p1 := (p.setCharge i 0).bindTerms a.terms none
  let p2 := p1.adjustClaimed a.owner 0 a.requestCost
  p2.setAllot i a.freed

end Sys2Proof.Machine
end

