-- ==== Sys2Proof/Machine/Flags.lean ====
section
/-! DEFINITION. The changed flag of an allotment and whose request spares it (R14, R15), a client's attention and
ALERTn (R141), and the levels of the gate outputs (R100). -/

namespace Sys2Proof.Machine

/-! ### The changed flag -/

/-- What an event is, for the changed flag (R14). -/
inductive Origin where
  /-- No owner's own request: every allotment the event changes has its flag set. -/
  | other
  /-- A request from the owner naming the allotment of slot `i`. -/
  | owner (i : SlotIx)
  /-- A LEAVE or a JOIN from the owner, its own request for each of its allotments. -/
  | ownerAll (c : ClientIx)
deriving DecidableEq, Repr

/-- Whether the event is the owner's own request for slot `i`. -/
def Origin.spares (o : Origin) (i : SlotIx) (a : Allotment) : Bool :=
  match o with
  | .other => false
  | .owner j => i == j
  | .ownerAll c => a.owner == some c

/-- Set the changed flag of slot `i` unless the event is the owner's own request for it (R14). -/
def Plant.markChanged (p : Plant) (o : Origin) (i : SlotIx) : Plant :=
  if o.spares i (p.allot i) then p else p.setAllot i { p.allot i with changed := true }

/-- Clear the changed flag of slot `i` (R15). -/
def Plant.clearChanged (p : Plant) (i : SlotIx) : Plant := p.setAllot i { p.allot i with changed := false }

/-! ### Attention and ALERTn (R141) -/

/-- The non-FREE allotments of a client, in ascending slot order. -/
def Plant.ownedBy (p : Plant) (c : ClientIx) : List SlotIx :=
  allSlots.filter fun i => (p.allot i).state ≠ .free ∧ (p.allot i).owner = some c

/-- The non-FREE allotments, in ascending slot order. -/
def Plant.inUse (p : Plant) : List SlotIx := allSlots.filter fun i => (p.allot i).state ≠ .free

/-- A client has attention while any of its non-FREE allotments is changed, or its retired count is above 0. -/
def Plant.attention (p : Plant) (c : ClientIx) : Bool :=
  (p.ownedBy c).any (fun i => (p.allot i).changed) || decide (0 < (p.client c).retired)

/-- ALERTn is driven low while any client that is ACTIVE with alert enable on has attention. -/
def Plant.alertLow (p : Plant) : Bool :=
  allClients.any fun c => (p.client c).state == .active && (p.client c).alert && p.attention c

/-- The level of ALERTn: true when the part drives it low. -/
def State.alertLow (s : State) : Bool := s.plant.alertLow

/-! ### Gate outputs (R100) -/

/-- Whether a channel's gate is high at count `k` of the frame: in its pulse, from its start count for the duty fixed at
the frame start, or in the tail of the pulse before. A channel with no phase slot drives its gate low. -/
def Channel.gateAt (c : Channel) (k : Nat) : Bool :=
  match c.phase with
  | none => false
  | some s =>
    decide (Config.phaseSpacing * s.val ≤ k ∧ k < Config.phaseSpacing * s.val + c.pulse) || decide (k < c.tail)

/-- The level of gate output Gn now. -/
def State.gateHigh (s : State) (n : ChannelIx) : Bool := (s.plant.chan n).gateAt s.plant.out.frameCount

end Sys2Proof.Machine
end

