-- ==== Sys2Proof/Machine/Transition.lean ====
section
/-! DEFINITION. Starting and ending transitions of one allotment (chapter 4), the cut of one allotment (R38), its trip
(R118 to R120), and the release of one allotment and of a client (R87 to R91, R94). -/

namespace Sys2Proof.Machine

/-- Some term's target exceeds the duty applied now. -/
def Plant.anyRising (p : Plant) (terms : List Term) (d : Term → Nat) : Bool :=
  terms.any fun t => decide ((p.chan t.channel).applied < d t)

/-- The state a transition starts in (R69): RISING for a grant or a top-up (no outcome); for every other cause RISING
if any target exceeds its applied duty, FALLING with the outcome otherwise. -/
def Plant.transitionState (p : Plant) (terms : List Term) (d : Term → Nat) : Option FallOutcome → AllotState
  | none => .rising
  | some o => if p.anyRising terms d then .rising else .falling o

/-- The record of an allotment for which a transition toward the targets `d` starts (R69). -/
def Plant.inTransition (p : Plant) (a : Allotment) (d : Term → Nat) (outcome : Option FallOutcome) : Allotment :=
  { a with
    commandId := a.commandId + 1
    terms := a.terms.map fun t => { t with target := d t }
    unsettled := a.terms.map Term.channel
    state := p.transitionState a.terms d outcome }

/-- Start a transition for slot `i` toward the targets `d` (R69, R70): the command identity advances, the targets are
recorded, the charge becomes the transition charge and the committed charge follows, the unsettled set holds every
channel, and the output stage takes the command. -/
def Plant.startTransition (p : Plant) (i : SlotIx) (d : Term → Nat) (outcome : Option FallOutcome) : Plant :=
  let a := p.allot i
  let p1 := (p.setAllot i (p.inTransition a d outcome)).setCharge i (p.transitionCharge a.terms d)
  { p1 with out := p1.out.command a.terms d (a.commandId + 1) }

/-- A fall to FREE from the duties applied now: every target 0 (R12, R71, R78, R88, R89). -/
def Plant.fallToFree (p : Plant) (i : SlotIx) : Plant := p.startTransition i (fun _ => 0) (some .free)

/-- Every target 0 and the unsettled set empty, as a cut and a trip leave them (R12, R38, R119). -/
def Allotment.halted (a : Allotment) : Allotment :=
  { a with terms := a.terms.map (fun t => { t with target := 0 }), unsettled := [] }

/-- The output stage cuts every channel of slot `i`; targets, charge and unsettled set go to zero, and the allotment
leaves the grant list and the wait queue (R38 steps 1 to 3, R119 steps 1 to 4). -/
def Plant.cutAllotment (p : Plant) (i : SlotIx) : Plant :=
  let a := p.allot i
  let p1 := { p with out := p.out.cut (a.terms.map Term.channel) }
  let p2 := (p1.setAllot i a.halted).setCharge i 0
  (p2.leaveGrants i).leaveQueue i

/-- Put slot `i` in a state. -/
def Plant.setState (p : Plant) (i : SlotIx) (st : AllotState) : Plant :=
  p.setAllot i { p.allot i with state := st }

/-- The hard cut of one allotment (R38): FREE when it was FALLING/FREE, else WAITING at the front of its rank. -/
def Plant.hardCutOne (p : Plant) (i : SlotIx) : Plant :=
  let st := (p.allot i).state
  let p1 := (p.cutAllotment i).markChanged .other i
  if st = .falling .free then p1.freeSlot i else (p1.setState i .waiting).queueFront i

/-! ### Release (R87 to R91, R94) -/

/-- Whether a release changes an allotment in this state: every state but FREE and FALLING/FREE (R94). -/
def AllotState.releasable (st : AllotState) : Bool := !(st == .free) && !(st == .falling .free)

/-- The retire report and then the freeing of a slot that holds no output (R87). -/
def Plant.releaseIdle (p : Plant) (i : SlotIx) (retires : Bool) : Plant :=
  (if retires then p.retire i else p).freeSlot i

/-- The fall to FREE of a slot that drives its channels, with its flag and its retire report (R88 to R91). -/
def Plant.releaseDriven (p : Plant) (o : Origin) (i : SlotIx) (retires : Bool) : Plant :=
  let p1 := (p.fallToFree i).markChanged o i
  if retires then p1.retire i else p1

/-- A release of slot `i` by its state (R87 to R90). `retires` holds for a supervisor's RELEASE and for a lapse (R16). -/
def Plant.releaseOne (p : Plant) (o : Origin) (retires : Bool) (i : SlotIx) : Plant :=
  match (p.allot i).state with
  | .free => p
  | .waiting => (p.leaveQueue i).releaseIdle i retires
  | .staged => (p.setStage none).releaseIdle i retires
  | .tripped => p.releaseIdle i retires
  | .rising => p.releaseDriven o i retires
  | .running => p.releaseDriven o i retires
  | .reduced => (p.leaveQueue i).releaseDriven o i retires
  | .falling .free => p
  | .falling .waiting => p.releaseDriven o i retires
  | .falling .reduced => p.releaseDriven o i retires
  | .falling .running => p.releaseDriven o i retires

/-- How many allotments of a client a client release changes (R94). -/
def Plant.releasedCount (p : Plant) (c : ClientIx) : Nat :=
  ((p.ownedBy c).filter fun i => (p.allot i).state.releasable).length

/-- The client release of a client's allotments in ascending slot order (R94), without its pass. -/
def Plant.releaseClient (p : Plant) (o : Origin) (retires : Bool) (c : ClientIx) : Plant :=
  (p.ownedBy c).foldl (fun q i => q.releaseOne o retires i) p

/-! ### Trips (R118 to R120) -/

/-- The trip of slot `i` by its state, without what follows it. A FREE or TRIPPED allotment is unchanged (R116). -/
def Plant.tripOne (p : Plant) (i : SlotIx) : Plant :=
  match (p.allot i).state with
  | .free => p
  | .tripped => p
  | .waiting => ((p.leaveQueue i).setState i .tripped).markChanged .other i
  | .staged => ((p.setStage none).setState i .tripped).markChanged .other i
  | .falling .free => ((p.cutAllotment i).markChanged .other i).freeSlot i
  | .rising => ((p.cutAllotment i).setState i .tripped).markChanged .other i
  | .running => ((p.cutAllotment i).setState i .tripped).markChanged .other i
  | .reduced => ((p.cutAllotment i).setState i .tripped).markChanged .other i
  | .falling .waiting => ((p.cutAllotment i).setState i .tripped).markChanged .other i
  | .falling .reduced => ((p.cutAllotment i).setState i .tripped).markChanged .other i
  | .falling .running => ((p.cutAllotment i).setState i .tripped).markChanged .other i

end Sys2Proof.Machine
end

