-- ==== Sys2Proof/Machine/Admission.lean ====
section
/-! DEFINITION. The admission pass, victim plans, the stage and its resolution (chapter 3), and the hard cut
(R37 to R39). `eff` is the effective ceiling in force. -/

namespace Sys2Proof.Machine

/-- `need` units are within available, the effective ceiling minus the committed charge (R53). -/
def Plant.fits (p : Plant) (eff need : Nat) : Bool := decide (p.eng.committed + need ≤ eff)

/-! ### Steps of the pass (R54, R56, R62) -/

/-- A top-up: out of the queue and rising toward the requested duties (R54). -/
def Plant.topUp (p : Plant) (o : Origin) (i : SlotIx) : Plant :=
  ((p.leaveQueue i).startTransition i (·.requested) none).markChanged o i

/-- A grant by a pass: out of the queue, rising toward the requested duties, at the back of the grant list (R56). -/
def Plant.grant (p : Plant) (o : Origin) (i : SlotIx) : Plant :=
  (((p.leaveQueue i).startTransition i (·.requested) none).joinGrants i).markChanged o i

/-- Staging: out of the queue and into the stage, STAGED with charge 0 and every target 0 (R62). -/
def Plant.stageEntry (p : Plant) (o : Origin) (i : SlotIx) : Plant :=
  let p1 := ((p.leaveQueue i).setStage (some (p.handleOf i))).setCharge i 0
  (p1.setAllot i { (p1.allot i).halted with state := .staged }).markChanged o i

/-! ### Victim plans (R58 to R61) -/

/-- Pending: what the falls in progress will give back (R58). -/
def Plant.pendingRelease (p : Plant) : Nat :=
  (allSlots.map fun i =>
    match (p.allot i).state with
    | .falling oc => (p.allot i).charge - (p.allot i).chargeAfter oc
    | _ => 0).sum

/-- Granted allotments in victim order: lowest rank first, within a rank the most recently admitted first (R51). -/
def Plant.victimOrder (p : Plant) : List Handle :=
  (classesByRank p.eng.levels).reverse.flatMap fun c => p.eng.grants.reverse.filter fun h => p.classOf h = c

/-- Reduction candidates for an entry of class `c`: RUNNING, with a floor, of strictly lower rank (R59). -/
def Plant.reductionCandidates (p : Plant) (c : ClassIx) : List Handle :=
  p.victimOrder.filter fun h =>
    (p.allot h.slot).state = .running && (p.allot h.slot).floor.isSome && ranksAbove p.eng.levels c (p.classOf h)

/-- Shedding candidates for an entry of class `c`: RISING, RUNNING or REDUCED, of strictly lower rank (R60). -/
def Plant.sheddingCandidates (p : Plant) (c : ClassIx) : List Handle :=
  p.victimOrder.filter fun h =>
    ((p.allot h.slot).state = .rising || (p.allot h.slot).state = .running || (p.allot h.slot).state = .reduced)
    && ranksAbove p.eng.levels c (p.classOf h)

/-- The candidates up to the first after which the sum of their gains is at least `need`; none when they run out
first (R59, R60). -/
def takeVictims (gain : Handle → Nat) : Nat → List Handle → Option (List Handle)
  | _, [] => none
  | need, h :: rest => if need ≤ gain h then some [h] else (takeVictims gain (need - gain h) rest).map (h :: ·)

/-- A reduction of a victim to its floor duties (R59). A victim of equal costs whose duties differ falls by ramp steps
as every other (DESIGN CHOICE, log entry 27). -/
def Plant.reduceVictim (p : Plant) (o : Origin) (i : SlotIx) : Plant :=
  (p.startTransition i (p.allot i).floorDutyOf (some .reduced)).markChanged o i

/-- The shedding of a victim; a REDUCED victim leaves the wait queue (R60). -/
def Plant.shedVictim (p : Plant) (o : Origin) (i : SlotIx) : Plant :=
  ((p.leaveQueue i).startTransition i (fun _ => 0) (some .waiting)).markChanged o i

/-- The plan for the WAITING entry of slot `i`, which does not fit now: staged on falls in progress alone, on
reductions, or on shedding, in that order; none when no plan can be made (R58 to R61). -/
def Plant.plan (p : Plant) (eff : Nat) (o : Origin) (i : SlotIx) : Option Plant :=
  let a := p.allot i
  let need := a.requestCost + p.eng.committed - eff
  let pending := p.pendingRelease
  if need ≤ pending then some (p.stageEntry o i)
  else
    let reductionGain := fun h : Handle => (p.allot h.slot).requestCost - (p.allot h.slot).floorCost
    match takeVictims reductionGain (need - pending) (p.reductionCandidates a.cls) with
    | some vs => some ((vs.foldl (fun q h => q.reduceVictim o h.slot) p).stageEntry o i)
    | none =>
      match takeVictims (fun h => (p.allot h.slot).charge) (need - pending) (p.sheddingCandidates a.cls) with
      | some vs => some ((vs.foldl (fun q h => q.shedVictim o h.slot) p).stageEntry o i)
      | none => none

/-! ### The pass (R52 to R57) -/

/-- The walk of the queue entries from head to tail (R53): top up or pass over a REDUCED entry (R54); pass over a
WAITING entry above the effective ceiling (R55), grant one that fits now (R56), else stage it by a plan, which ends the
walk, or stop at it (R61). -/
def passWalk (eff : Nat) (o : Origin) : List Handle → Plant → Plant
  | [], p => p
  | h :: rest, p =>
    let a := p.allot h.slot
    match a.state with
    | .reduced =>
      if p.fits eff (a.requestCost - a.floorCost) then passWalk eff o rest (p.topUp o h.slot)
      else passWalk eff o rest p
    | .waiting =>
      if eff < a.requestCost then passWalk eff o rest p
      else if p.fits eff a.requestCost then passWalk eff o rest (p.grant o h.slot)
      else
        match p.plan eff o h.slot with
        | some q => q
        | none => p
    | .free | .staged | .rising | .running | .falling _ | .tripped => passWalk eff o rest p

/-- An admission pass over the queue as it stands (R53). -/
def Plant.pass (p : Plant) (eff : Nat) (o : Origin) : Plant := passWalk eff o p.eng.queue p

/-- The pass of an event, when it gave a trigger and the stage is empty (R52). -/
def Plant.passIf (p : Plant) (eff : Nat) (o : Origin) (trigger : Bool) : Plant :=
  if trigger && p.eng.stage.isNone then p.pass eff o else p

/-! ### Stage resolution (R64, R65) -/

/-- Some allotment is FALLING. -/
def Plant.anyFalling (p : Plant) : Bool := allSlots.any fun i => (p.allot i).state.outcome?.isSome

/-- The resolution of the staged slot `i`: granted when its request cost is within available, else WAITING at the front
of its rank; the stage empties either way (R65). -/
def Plant.resolveSlot (p : Plant) (eff : Nat) (i : SlotIx) : Plant :=
  let p1 := p.setStage none
  if p.fits eff (p.allot i).requestCost then
    ((p1.startTransition i (·.requested) none).joinGrants i).markChanged .other i
  else ((p1.setState i .waiting).queueFront i).markChanged .other i

/-- The end of an event that can end the last fall (R39, R64, R65, R74, R121): a stage that no fall holds up resolves
and a pass follows; with the stage empty a pass runs when the event gave a trigger. -/
def Plant.settleStage (p : Plant) (eff : Nat) (trigger : Bool) : Plant :=
  match p.eng.stage with
  | some h => if p.anyFalling then p else (p.resolveSlot eff h.slot).pass eff .other
  | none => if trigger then p.pass eff .other else p

/-! ### The hard cut (R37 to R39) -/

/-- The order of a hard cut: FALLING allotments, most recently admitted first, then RISING, RUNNING and REDUCED ones in
victim order (R37). -/
def Plant.cutOrder (p : Plant) : List Handle :=
  (p.eng.grants.reverse.filter fun h => (p.allot h.slot).state.outcome?.isSome)
  ++ (p.victimOrder.filter fun h =>
        (p.allot h.slot).state = .rising || (p.allot h.slot).state = .running || (p.allot h.slot).state = .reduced)

/-- Cut allotments one at a time, stopping with the first cut after which the committed charge is within the effective
ceiling (R37). -/
def cutWalk (eff : Nat) : List Handle → Plant → Plant
  | [], p => p
  | h :: rest, p => if p.eng.committed ≤ eff then p else cutWalk eff rest (p.hardCutOne h.slot)

/-- The hard cut with what follows it in the same event (R37 to R39). -/
def Plant.hardCut (p : Plant) (eff : Nat) : Plant := (cutWalk eff p.cutOrder p).settleStage eff true

end Sys2Proof.Machine
end

