-- ==== Sys2Proof/Machine/Frame.lean ====
section
/-! DEFINITION. The frame check byte and the building of reply frames (R155, R159). -/

namespace Sys2Proof.Machine

/-- One shift of the CRC register: the low eight bits of the polynomial, x^4+x^3+x^2+1, are combined when the bit
shifted out was 1 (R155). -/
def crcShift (r : Byte) : Byte := if r.msb then (r <<< 1) ^^^ 0x1D#8 else r <<< 1

/-- One byte entering the CRC: combined into the register, which is then shifted left eight times (R155). -/
def crcByte (r b : Byte) : Byte :=
  crcShift (crcShift (crcShift (crcShift (crcShift (crcShift (crcShift (crcShift (r ^^^ b))))))))

/-- The frame check byte over the bytes before it (R155). -/
def crc8 (bytes : List Byte) : Byte := bytes.foldl crcByte 0xFF#8

/-- The bytes with their frame check byte behind them. -/
def withCheck (bytes : List Byte) : List Byte := bytes ++ [crc8 bytes]

/-- The reply frame: sequence number, status, payload length, payload, frame check byte (10.1, R159). -/
def replyFrame (sequence : Byte) (st : Status) (payload : List Byte) : List Byte :=
  withCheck (sequence :: st.code :: byte payload.length :: payload)

/-- The frame check of R154 on a received frame: at least 5 bytes, the byte count that its length byte gives, no
over-length mark, and the frame check byte. -/
def frameCheckOk (frame : List Byte) (overLength : Bool) : Bool :=
  decide (Config.frameOverhead ≤ frame.length)
  && frame.length == Config.frameOverhead + byteAt frame 3
  && !overLength
  && frame.getLastD 0 == crc8 frame.dropLast

/-- The payload of a request frame that passed the frame check. -/
def framePayload (frame : List Byte) : List Byte := (frame.drop 4).dropLast

end Sys2Proof.Machine
end

