-- ==== Sys2Proof/Machine/Events.lean ====
section
/-! DEFINITION. What every command's meaning is built from at the level of the whole state: whether the part is held in
reset, the report of a new effective ceiling (R26, R36), the window restart (R131), and the taking of a request with
the building of its reply (R158 to R160). -/

namespace Sys2Proof.Machine

/-! ### Held in reset (R174) -/

/-- Some reset is asserted: no valid supply, power-on start-up not ended, or RESETn low. -/
def State.inReset (s : State) : Bool := !s.pins.supplyOk || s.ctl.powerOnPending || !s.pins.resetnHigh

/-- An event of the part, which a part held in reset does not take (R174): its state stays. -/
def State.taking (s : State) (f : State → State) : Host.Outcome State Fault Refusal :=
  .next (if s.inReset then s else f s)

/-- Replace the engine, the output stage and the client table. -/
def State.setPlant (s : State) (p : Plant) : State := { s with plant := p }

/-! ### The effective ceiling (R26, R36) -/

/-- The value R26 gives. -/
def LimitUnit.effectiveFor (l : LimitUnit) (part : PartState) : Nat :=
  match part, l.derate with
  | .setup, _ => 0
  | .run, .normal => l.configured
  | .run, .derated => min l.configured l.derated
  | .run, .holding => min l.configured l.derated

/-- The engine takes the report of a new effective ceiling (R36): on a rise a pass when the stage is empty; on a fall
below the committed charge a hard cut; else nothing. -/
def Plant.ceilingReport (p : Plant) (old new : Nat) : Plant :=
  if old < new then p.passIf new .other true
  else if p.eng.committed ≤ new then p
  else p.hardCut new

/-- The limit unit recomputes the effective ceiling and, when it differs from the one in force, reports it (R26). -/
def State.recompute (s : State) : State :=
  let new := s.lim.effectiveFor s.ctl.part
  if new = s.lim.effective then s
  else { s with lim := { s.lim with effective := new }, plant := s.plant.ceilingReport s.lim.effective new }

/-! ### Windows (R131) -/

/-- The full window of a client as a timer, absent for a window of 0 (R137). -/
def windowTimer (window : Nat) : Option Nat := if window = 0 then none else some (Config.windowUnitMs * window)

/-- The window timer of an ACTIVE client with a window above 0 restarts at the full window (R131). -/
def Plant.restartWindow (p : Plant) (snd : Sender) : Plant :=
  match snd with
  | .supervisor => p
  | .client c =>
    if (p.client c).state = .active ∧ 0 < (p.client c).window then
      p.setClient c { p.client c with timer := windowTimer (p.client c).window }
    else p

/-! ### Taking a request (R158 to R160) -/

/-- The reply slot of a sender (R156). -/
def Port.slotOf (t : Port) : Sender → Option ReplySlot
  | .supervisor => t.supervisorSlot
  | .client c => t.clientSlots[c]

/-- Write the reply slot of a sender (R160). -/
def Port.setSlot (t : Port) (snd : Sender) (x : Option ReplySlot) : Port :=
  match snd with
  | .supervisor => { t with supervisorSlot := x }
  | .client c => { t with clientSlots := t.clientSlots.set c x }

/-- Keep a frame that reached step 5 with its reply in the sender's reply slot (R160). -/
def Port.keep (t : Port) (snd : Sender) (frame reply : List Byte) : Port :=
  t.setSlot snd (some { sequence := frame.getD 1 0, request := frame, reply := reply })

/-- The port takes what the owning block returned for the request it handed over (R159, R160): the reply frame is
built and kept, and waits to come into hand. A return for another request is none of the port's. -/
def Port.takeReturn (t : Port) (r : Request) (snd : Sender) (payload : List Byte) (b : BlockReply) : Port :=
  match t.handed with
  | none => t
  | some h =>
    if h.request = r ∧ h.sender = snd ∧ h.payload = payload then
      let reply := replyFrame h.sequence b.status b.payload
      { t.keep snd h.frame reply with
        handed := none
        built := some reply
        restartReply := decide (r = .restart ∧ b.status = .ok) }
    else t

/-- A sender whose client slot is UNSET is no client of the part (R131; log entry 12). -/
def State.unknownSender (s : State) (snd : Sender) : Bool :=
  match snd with
  | .supervisor => false
  | .client c => (s.plant.client c).state == .unset

/-- What a block does with a request: the state after its event, and what it returns. -/
abbrev BlockStep := Sender → List Byte → State → State × BlockReply

/-- A request refused: nothing changes (R178). -/
def State.refuse (s : State) (st : Status) : State × BlockReply := (s, .bare st)

/-- The event in which the owning block carries a request out (R158), and the port takes what it returns (R159). -/
def State.request (s : State) (r : Request) (snd : Sender) (payload : List Byte) (f : BlockStep) :
    Host.Outcome State Fault Refusal :=
  s.taking fun s =>
    let x := if s.unknownSender snd then s.refuse .notClient else f snd payload s
    { x.1 with returned := some x.2, port := x.1.port.takeReturn r snd payload x.2 }

/-! ### Tests that several requests share -/

/-- The refusal of a client that is not ACTIVE, none for an ACTIVE client or the supervisor (R22, R86, R135). -/
def State.notActive (s : State) (snd : Sender) : Option Status :=
  match snd with
  | .supervisor => none
  | .client c =>
    match (s.plant.client c).state with
    | .active => none
    | .idle => some .notJoined
    | .lapsed => some .lapsed
    | .unset => some .notClient

/-- The tests of R6 on the handle in the first two bytes of a payload: the slot, or the refusing status. -/
def State.handleTest (s : State) (snd : Sender) (payload : List Byte) : Except Status SlotIx :=
  match slotOfNumber (byteAt payload 0) with
  | none => .error .badField
  | some i =>
    let a := s.plant.allot i
    if (clientOf snd).isSome ∧ a.owner ≠ clientOf snd then .error .notOwner
    else if a.state ≠ .free ∧ a.generation = payload.getD 1 0 then .ok i
    else .error .staleHandle

/-- Whose request a request on the allotment of slot `i` is, for the changed flag: the owner's own from a client, which
can name only its own allotments (R6), no owner's own from the supervisor (R14, R91, R124). -/
def originOf (snd : Sender) (i : SlotIx) : Origin :=
  match snd with
  | .supervisor => .other
  | .client _ => .owner i

end Sys2Proof.Machine
end

