-- ==== Sys2Proof/Machine/OutputStage.lean ====
section
/-! DEFINITION. The output stage (chapter 5): the output frame, ramps and settled reports; SET_CHANNEL and SET_TIMING;
the fault latch, its events, and CLEAR_FAULT (chapter 6). -/

namespace Sys2Proof.Machine

/-! ### Ramps (R103, R104, R106) -/

/-- Frames per ramp interval (R103). -/
def Timing.frames (t : Timing) : Nat :=
  (match t.rate with | .khz16 => 16 | .khz4 => 4 | .khz1 => 1)
  * (match t.interval with | .ms1 => 1 | .ms2 => 2 | .ms4 => 4 | .ms8 => 8)

/-- One ramp step of a channel in RISE or FALL, clamped at its target (R104); other channels take no step. -/
def Channel.ramped (c : Channel) : Channel :=
  match c.state with
  | .rise => { c with applied := min (c.applied + c.step) c.target }
  | .fall => { c with applied := max (c.applied - c.step) c.target }
  | .off | .on | .faulted => c

/-- The settled state of a channel: ON above 0; OFF, out of its phase slot, at 0 (R104, R106, R112). -/
def Channel.settled (c : Channel) : Channel :=
  if 0 < c.target then { c with state := .on, reportDue := false }
  else { c with state := .off, reportDue := false, phase := none }

/-- A channel at a frame start, and whether it settles there: a due report settles it at any frame start (R106); at a
step frame start a channel in RISE or FALL takes a step and settles when it reaches its target (R104). DESIGN CHOICE (log
entry 27, unsafe): so do the channels of a reduction victim whose floor cost equals its request cost by rounding while
its duties differ, of which R59 says only that a fall without a change of duty ends at its first frame start. -/
def Channel.atFrameStart (c : Channel) (step : Bool) : Channel × Bool :=
  if c.reportDue then (c.settled, true)
  else if step && (c.state == .rise || c.state == .fall) then
    if c.ramped.applied = c.target then (c.ramped.settled, true) else (c.ramped, false)
  else (c, false)

/-- The duty of the pulse that begins in the new frame, and the tail of the pulse before it (R99, R100). A channel
without a phase slot has neither. -/
def Channel.newPulse (c : Channel) : Channel :=
  match c.phase with
  | none => { c with pulse := 0, tail := 0 }
  | some s => { c with pulse := c.applied, tail := Config.phaseSpacing * s.val + c.pulse - Config.frameCounts }

/-- One channel of a frame start: its record after it, and its settled report behind those made before (R107). -/
def OutputStage.channelFrameStart (step : Bool) (o : OutputStage) (n : ChannelIx) : OutputStage :=
  let x := o.channels[n].atFrameStart step
  let o1 := o.setChan n x.1.newPulse
  if x.2 then { o1 with reports := o1.reports ++ [{ channel := n, command := x.1.command, applied := x.1.applied }] }
  else o1

/-- The ramp counter after a frame start (R102, R103): reloaded with the frames of a newly stored timing, or with those
of the timing in force when it reaches 0; else one less. -/
def OutputStage.nextRampCounter (o : OutputStage) : Nat :=
  match o.nextTiming with
  | some t => t.frames
  | none => if o.rampCounter ≤ 1 then o.timing.frames else o.rampCounter - 1

/-- The next frame start is a step frame start: the ramp counter reaches 0 in it (R103). -/
def OutputStage.stepNext (o : OutputStage) : Bool := decide (o.rampCounter ≤ 1)

/-- A frame start (R99): the frame counter is 0, a stored timing takes effect, the ramp counter goes down or is
reloaded, and every channel takes its step, makes its report and has its pulse duty fixed. -/
def OutputStage.frameStart (o : OutputStage) : OutputStage :=
  let o1 := allChannels.foldl (OutputStage.channelFrameStart o.stepNext) o
  { o1 with
    frameCount := 0
    timing := o.nextTiming.getD o.timing
    nextTiming := none
    rampCounter := o.nextRampCounter }

/-- Frame starts up to and including the next step frame start, at most `k`. -/
def OutputStage.toStepFrame : Nat → OutputStage → OutputStage
  | 0, o => o
  | k + 1, o => if o.stepNext then o.frameStart else toStepFrame k o.frameStart

/-- Most frame starts to a step frame start: one that takes a stored timing, and then 128 (R103). -/
def maxFramesToStep : Nat := 129

/-- Let the output stage act. -/
def State.onOutput (s : State) (f : OutputStage → OutputStage) : State :=
  s.setPlant { s.plant with out := f s.plant.out }

/-- FRAME_START: the rest of the frame's counts have passed and the frame counter returns to 0 (R99, log entry 3). -/
def execFrameStart (s : State) : Host.Outcome State Fault Refusal :=
  s.taking fun s => s.onOutput OutputStage.frameStart

/-- STEP_FRAME_START: the frame start at which the ramp counter reaches 0 (R103); the frame starts before it have
passed (log entry 3). -/
def execStepFrameStart (s : State) : Host.Outcome State Fault Refusal :=
  s.taking fun s => s.onOutput (OutputStage.toStepFrame maxFramesToStep)

/-- The frame counter advances one count; after count 255 it returns to 0, which is a frame start (R99). The gates follow
the count (R100). -/
def OutputStage.advance (o : OutputStage) : OutputStage :=
  if o.frameCount + 1 < Config.frameCounts then { o with frameCount := o.frameCount + 1 } else o.frameStart

/-- FRAME_COUNT_ADVANCE (R99, R100). -/
def execFrameCountAdvance (s : State) : Host.Outcome State Fault Refusal :=
  s.taking fun s => s.onOutput OutputStage.advance

/-! ### SET_CHANNEL (R97, R98) -/

/-- Order 4 of R97: the ranges of the four fields. -/
def setChannelFieldsOk (p : List Byte) : Bool :=
  decide (byteAt p 0 ≤ 15)
  && (if byteAt p 1 = 1 then decide (1 ≤ wordAt p 2 ∧ wordAt p 2 ≤ Config.maxRating)
      else decide (byteAt p 1 = 0 ∧ wordAt p 2 = 0))
  && decide (1 ≤ byteAt p 4)

/-- The record of a channel after an accepted SET_CHANNEL (R98): the fields are written; enabling a disabled channel
latches an active fault input; disabling an enabled one clears the latch. -/
def Channel.configure (c : Channel) (enable : Bool) (rating step : Nat) (faultLow : Bool) : Channel :=
  let c' := { c with enabled := enable, rating := rating, step := step }
  if enable then
    if !c.enabled && faultLow then c'.latched else c'
  else if c.enabled then { c' with state := .off } else c'

/-- The reply of SET_CHANNEL (R98, 10.4). -/
def channelReply (n : ChannelIx) (c : Channel) : List Byte :=
  [channelByte n, flag c.enabled] ++ word c.rating ++ [byte c.step, c.state.code]

/-- SET_CHANNEL at the output stage (R97, R98). -/
def setChannel : BlockStep := fun snd p s =>
  if snd ≠ .supervisor then s.refuse .supervisorOnly
  else if s.ctl.part ≠ .setup then s.refuse .notSetup
  else if p.length ≠ 5 then s.refuse .badLength
  else if !setChannelFieldsOk p then s.refuse .badField
  else
    let n : ChannelIx := Fin.ofNat 16 (byteAt p 0)
    let c := (s.plant.chan n).configure (byteAt p 1 == 1) (wordAt p 2) (byteAt p 4) s.pins.faultLow[n]
    (s.setPlant (s.plant.setChan n c), .okWith (channelReply n c))

/-- SET_CHANNEL. -/
def execSetChannel (snd : Sender) (payload : List Byte) (s : State) : Host.Outcome State Fault Refusal :=
  s.request .setChannel snd payload setChannel

/-! ### SET_TIMING (R101, R102) -/

/-- The reply of SET_TIMING (10.4). -/
def timingReply (t : Timing) : List Byte := [t.rate.code, t.interval.code, byte t.frames]

/-- SET_TIMING at the output stage: the choices are stored and take effect at the next frame start (R102). -/
def setTiming : BlockStep := fun snd p s =>
  if snd ≠ .supervisor then s.refuse .supervisorOnly
  else if s.ctl.part ≠ .setup then s.refuse .notSetup
  else if p.length ≠ 2 then s.refuse .badLength
  else
    match FrameRate.ofCode (byteAt p 0), RampInterval.ofCode (byteAt p 1) with
    | some r, some i =>
      (s.onOutput fun o => { o with nextTiming := some ⟨r, i⟩ }, .okWith (timingReply ⟨r, i⟩))
    | some _, none => s.refuse .badField
    | none, _ => s.refuse .badField

/-- SET_TIMING. -/
def execSetTiming (snd : Sender) (payload : List Byte) (s : State) : Host.Outcome State Fault Refusal :=
  s.request .setTiming snd payload setTiming

/-! ### Fault inputs (R114 to R116, R121) -/

/-- Write the level of a fault input. -/
def State.setFaultLow (s : State) (n : ChannelIx) (low : Bool) : State :=
  { s with pins := { s.pins with faultLow := s.pins.faultLow.set n low } }

/-- The engine takes a fault report (R116): nothing for an unbound channel; else the trip of the allotment bound to it,
with what follows it (R118, R121). `eff` is the effective ceiling. -/
def Plant.faultReport (p : Plant) (eff : Nat) (n : ChannelIx) : Plant :=
  match p.eng.binding[n] with
  | none => p
  | some h =>
    let q := p.tripOne h.slot
    match (p.allot h.slot).state with
    | .free => q
    | .tripped => q
    | .waiting => q
    | .staged => q.passIf eff .other true
    | .rising => q.settleStage eff (decide (q.eng.committed < p.eng.committed))
    | .running => q.settleStage eff (decide (q.eng.committed < p.eng.committed))
    | .reduced => q.settleStage eff (decide (q.eng.committed < p.eng.committed))
    | .falling _ => q.settleStage eff (decide (q.eng.committed < p.eng.committed))

/-- The fault input of an enabled channel goes active (R115): a FAULTED channel is unchanged; any other latches, and the
engine takes the report in the same event. -/
def Plant.faultActive (p : Plant) (eff : Nat) (n : ChannelIx) : Plant :=
  if (p.chan n).state = .faulted then p
  else ({ p with out := p.out.latch n } : Plant).faultReport eff n

/-- FAULT_INPUT_ACTIVE: the input falls. A disabled channel's input is not watched (R96); a part held in reset takes no
event (R174); an input that is low already does not fall. -/
def execFaultInputActive (n : ChannelIx) (s : State) : Host.Outcome State Fault Refusal :=
  if s.pins.faultLow[n] then .next s
  else
    let s1 := s.setFaultLow n true
    s1.taking fun s => if (s.plant.chan n).enabled then s.setPlant (s.plant.faultActive s.lim.effective n) else s

/-- FAULT_INPUT_INACTIVE: the input rises, which sets and clears nothing but its level (R114). -/
def execFaultInputInactive (n : ChannelIx) (s : State) : Host.Outcome State Fault Refusal :=
  .next (s.setFaultLow n false)

/-! ### CLEAR_FAULT (R126) -/

/-- The output stage clears the latch of a FAULTED channel whose input is inactive (R124, R126). -/
def State.clearLatch (s : State) (n : ChannelIx) : State :=
  if (s.plant.chan n).state = .faulted ∧ s.pins.faultLow[n] = false then
    s.setPlant (s.plant.setChan n (s.plant.chan n).cleared)
  else s

/-- The reply payload of CLEAR_FAULT (10.4). -/
def clearFaultReply (s : State) (n : ChannelIx) : List Byte :=
  [channelByte n, (s.plant.chan n).state.code, flag s.pins.faultLow[n]] ++ handleBytes s.plant.eng.binding[n]

/-- CLEAR_FAULT at the output stage (R126). -/
def clearFault : BlockStep := fun snd p s =>
  if snd ≠ .supervisor then s.refuse .supervisorOnly
  else if p.length ≠ 1 then s.refuse .badLength
  else
    match channelOfNumber (byteAt p 0) with
    | none => s.refuse .badField
    | some n =>
      if !(s.plant.chan n).enabled then s.refuse .channelDisabled
      else
        let s1 := s.clearLatch n
        let st : Status := if (s1.plant.chan n).state = .faulted then .channelFault else .ok
        (s1, { status := st, payload := clearFaultReply s1 n })

/-- CLEAR_FAULT. -/
def execClearFault (snd : Sender) (payload : List Byte) (s : State) : Host.Outcome State Fault Refusal :=
  s.request .clearFault snd payload clearFault

end Sys2Proof.Machine
end

