-- ==== Sys2Proof/Machine/Claims.lean ====
section
/-! DEFINITION. The requests on allotments (chapters 1, 4, 6 and 7): CLAIM, QUERY, RESHAPE, RELEASE, RETRY, SCAN, and
SET_CLASSES (chapter 3). -/

namespace Sys2Proof.Machine

/-! ### CLAIM (R17 to R20) -/

/-- The test of one channel at order 6: enabled, not FAULTED, not bound (R18). -/
def Plant.channelTest (p : Plant) (n : ChannelIx) : Option Status :=
  if !(p.chan n).enabled then some .channelDisabled
  else if (p.chan n).state = .faulted then some .channelFault
  else if (p.eng.binding[n]).isSome then some .channelHeld
  else none

/-- The first channel, in term order, that fails order 6, with its status (R18). -/
def Plant.claimChannelTest (p : Plant) : List Term → Option (Status × ChannelIx)
  | [] => none
  | t :: rest =>
    match p.channelTest t.channel with
    | some st => some (st, t.channel)
    | none => p.claimChannelTest rest

/-- The record R19 writes into a slot, whose generation and command identity stay. -/
def Plant.claimRecord (p : Plant) (c : ClientIx) (payload : List Byte) (old : Allotment) : Allotment where
  generation := old.generation
  owner := some c
  cls := claimClass payload
  terms := claimTerms payload
  floor := p.floorPart (claimTerms payload) (claimFloor payload)
  requestCost := p.requestCostOf (claimTerms payload)
  run := (claimRun payload).map fun r => { limit := r, remaining := r, counted := 0 }
  tag := claimTag payload
  state := .waiting
  charge := old.charge
  changed := false
  commandId := old.commandId
  unsettled := []

/-- The creation of an allotment in slot `i` (R19 steps 2 to 7, without the pass): the record, the bindings, the
creation report, the place at the back of its rank. -/
def Plant.createAllotment (p : Plant) (c : ClientIx) (payload : List Byte) (i : SlotIx) : Plant :=
  let p1 := (p.setAllot i (p.claimRecord c payload (p.allot i))).setCharge i 0
  let p2 := p1.bindTerms (claimTerms payload) (some (p1.handleOf i))
  (p2.adjustClaimed (some c) (p.requestCostOf (claimTerms payload)) 0).queueBack i

/-- The event of an accepted CLAIM: the creation and, with the stage empty, the pass it starts (R19). -/
def Plant.claimAccepted (p : Plant) (eff : Nat) (c : ClientIx) (payload : List Byte) (i : SlotIx) : Plant :=
  (p.createAllotment c payload i).passIf eff (.owner i) true

/-- The reply to an accepted CLAIM: the handle and the state after the pass (R20). -/
def Plant.claimReply (p : Plant) (i : SlotIx) : BlockReply :=
  .okWith ((p.handleOf i).bytes ++ [byte (p.allot i).state.code])

/-- CLAIM at the engine: the tests of R17 in order, then R19. -/
def claim : BlockStep := fun snd payload s =>
  match snd with
  | .supervisor => s.refuse .clientOnly
  | .client c =>
    if s.ctl.part ≠ .run then s.refuse .notRunning
    else
      match s.notActive snd with
      | some st => s.refuse st
      | none =>
        if !claimLengthOk payload then s.refuse .badLength
        else if !claimFieldsOk payload then s.refuse .badField
        else
          match s.plant.claimChannelTest (claimTerms payload) with
          | some (st, n) => (s, { status := st, payload := [channelByte n] })
          | none =>
            let cost := s.plant.requestCostOf (claimTerms payload)
            if s.lim.configured < cost then s.refuse .overCeiling
            else if (s.plant.client c).quota < (s.plant.client c).claimed + cost then s.refuse .overQuota
            else
              match s.plant.lowestFree with
              | none => s.refuse .tableFull
              | some i =>
                let p := s.plant.claimAccepted s.lim.effective c payload i
                (s.setPlant p, p.claimReply i)

/-- CLAIM. -/
def execClaim (snd : Sender) (payload : List Byte) (s : State) : Host.Outcome State Fault Refusal :=
  s.request .claim snd payload claim

/-! ### QUERY (R22 to R24) -/

/-- The presence flags of a record, in the bit positions of CLAIM (R179). -/
def Allotment.presence (a : Allotment) : Byte :=
  byte (a.floor.isSome.toNat + 2 * a.run.isSome.toNat + 4 * a.tag.isSome.toNat)

/-- The five bytes of one term in a QUERY reply (10.4). -/
def Plant.termBytes (p : Plant) (t : Term) : List Byte :=
  [channelByte t.channel, byte t.requested, byte t.target, byte (p.chan t.channel).applied,
   (p.chan t.channel).state.code]

/-- The id of an owner, 00h for none. -/
def Plant.idByte (p : Plant) (owner : Option ClientIx) : Byte :=
  match owner with
  | some c => (p.client c).id.getD 0
  | none => 0

/-- The QUERY reply payload (R23, 10.4). -/
def Plant.queryReply (p : Plant) (i : SlotIx) : List Byte :=
  let a := p.allot i
  (p.handleOf i).bytes
  ++ [ownerByte a.owner, p.idByte a.owner, byte a.cls.val, byte a.state.code, a.state.outcomeByte, a.presence,
      flag a.changed, byte (p.queuePosition i)]
  ++ word a.charge ++ word a.requestCost
  ++ (match a.floor with | some f => byte f.fraction :: word f.cost | none => [])
  ++ (match a.run with | some r => word r.limit ++ word r.remaining | none => [])
  ++ (match a.tag with | some t => word t.toNat | none => [])
  ++ byte a.terms.length :: a.terms.flatMap p.termBytes

/-- QUERY at the engine: the tests of R22, the reply of R23, and the owner's clearing of the changed flag (R24). -/
def query : BlockStep := fun snd payload s =>
  match s.notActive snd with
  | some st => s.refuse st
  | none =>
    if payload.length ≠ 2 then s.refuse .badLength
    else
      match s.handleTest snd payload with
      | .error st => s.refuse st
      | .ok i =>
        (s.setPlant (if (clientOf snd).isSome then s.plant.clearChanged i else s.plant),
         .okWith (s.plant.queryReply i))

/-- QUERY. -/
def execQuery (snd : Sender) (payload : List Byte) (s : State) : Host.Outcome State Fault Refusal :=
  s.request .query snd payload query

/-! ### RESHAPE (R80 to R84) -/

/-- The term list with new requested duties, in list order (R7). -/
def withDuties (terms : List Term) (duties : List Nat) : List Term :=
  List.zipWith (fun t d => { t with requested := d }) terms duties

/-- The record with its new requested duties, request cost and floor cost (R81, R82, R83). -/
def Plant.reshaped (p : Plant) (a : Allotment) (duties : List Nat) : Allotment :=
  { a with
    terms := withDuties a.terms duties
    requestCost := p.requestCostOf (withDuties a.terms duties)
    floor := p.floorPart (withDuties a.terms duties) (a.floor.map (·.fraction)) }

/-- The transition charge a reshape of a RUNNING allotment would hold (R83). -/
def Plant.reshapeCharge (p : Plant) (a : Allotment) (duties : List Nat) : Nat :=
  (List.zipWith (fun t d => costAt (p.chan t.channel).rating (max t.requested d)) a.terms duties).sum

/-- Some new duty exceeds the requested duty it replaces. -/
def raisesDuty (terms : List Term) (duties : List Nat) : Bool :=
  (List.zipWith (fun (t : Term) d => decide (t.requested < d)) terms duties).any id

/-- The new duties stored, with the report of the costs to the client table (R81). -/
def Plant.storeReshape (p : Plant) (i : SlotIx) (duties : List Nat) : Plant :=
  let a := p.allot i
  let a' := p.reshaped a duties
  (p.setAllot i a').adjustClaimed a.owner a'.requestCost a.requestCost

/-- An accepted RESHAPE (R81 to R83): a WAITING allotment takes the new duties; a RUNNING one whose duties all stay is
unchanged, and otherwise starts a transition toward them. -/
def Plant.reshapeAccepted (p : Plant) (i : SlotIx) (duties : List Nat) : Plant :=
  let a := p.allot i
  if a.state = .waiting then p.storeReshape i duties
  else if a.terms.map (·.requested) = duties then p
  else (p.storeReshape i duties).startTransition i (·.requested) (some .running)

/-- The reply to an accepted RESHAPE (R84, 10.4). -/
def Plant.reshapeReply (p : Plant) (i : SlotIx) : BlockReply :=
  let a := p.allot i
  .okWith ((p.handleOf i).bytes ++ [byte a.state.code, a.state.outcomeByte]
    ++ word a.requestCost ++ word a.floorCost ++ word a.charge)

/-- RESHAPE at the engine: the tests of R80 in order, then R81 to R83. -/
def reshape : BlockStep := fun snd payload s =>
  match snd with
  | .supervisor => s.refuse .clientOnly
  | .client c =>
    if s.ctl.part ≠ .run then s.refuse .notRunning
    else
      match s.notActive snd with
      | some st => s.refuse st
      | none =>
        if payload.length < 3 ∨ 6 < payload.length then s.refuse .badLength
        else
          match s.handleTest snd payload with
          | .error st => s.refuse st
          | .ok i =>
            let p := s.plant
            let a := p.allot i
            let duties := reshapeDuties payload
            let cost := p.requestCostOf (withDuties a.terms duties)
            let increase := p.reshapeCharge a duties - a.charge
            if duties.length ≠ a.terms.length then s.refuse .badLength
            else if duties.any (· == 0) then s.refuse .badField
            else if ¬(a.state = .running ∨ a.state = .waiting) then s.refuse .wrongState
            else if (p.client c).quota < (p.client c).claimed + cost - a.requestCost then s.refuse .overQuota
            else if s.lim.configured < cost then s.refuse .overCeiling
            else if a.state = .running ∧ raisesDuty a.terms duties
                ∧ s.lim.effective < p.eng.committed + p.reserve + increase then
              (s, { status := .noRoom
                    payload := word increase ++ word (s.lim.effective - p.eng.committed - p.reserve) })
            else
              let q := p.reshapeAccepted i duties
              (s.setPlant q, q.reshapeReply i)

/-- RESHAPE. -/
def execReshape (snd : Sender) (payload : List Byte) (s : State) : Host.Outcome State Fault Refusal :=
  s.request .reshape snd payload reshape

/-! ### RELEASE (R86 to R92) -/

/-- Whether an event's other work gave a release's trigger of R52: the committed charge fell or the stage emptied. -/
def releaseTrigger (before after : Plant) : Bool :=
  decide (after.eng.committed < before.eng.committed) || (before.eng.stage.isSome && after.eng.stage.isNone)

/-- An accepted RELEASE with the pass it causes (R87 to R91). -/
def Plant.releaseAccepted (p : Plant) (eff : Nat) (snd : Sender) (i : SlotIx) : Plant :=
  let q := p.releaseOne (originOf snd i) (clientOf snd).isNone i
  q.passIf eff (originOf snd i) (releaseTrigger p q)

/-- The reply to an accepted RELEASE; the handle is the one named (R92). -/
def Plant.releaseReply (p : Plant) (h : Handle) : BlockReply :=
  let a := p.allot h.slot
  .okWith (h.bytes ++ [byte a.state.code, a.state.outcomeByte] ++ word a.charge)

/-- RELEASE at the engine: the tests of R86 in order, then R87 to R91. -/
def release : BlockStep := fun snd payload s =>
  match s.notActive snd with
  | some st => s.refuse st
  | none =>
    if payload.length ≠ 2 then s.refuse .badLength
    else
      match s.handleTest snd payload with
      | .error st => s.refuse st
      | .ok i =>
        let q := s.plant.releaseAccepted s.lim.effective snd i
        (s.setPlant q, q.releaseReply (s.plant.handleOf i))

/-- RELEASE. -/
def execRelease (snd : Sender) (payload : List Byte) (s : State) : Host.Outcome State Fault Refusal :=
  s.request .release snd payload release

/-! ### RETRY (R123 to R125) -/

/-- The latches of the terms' FAULTED channels cleared where their inputs are inactive, in list order (R124). -/
def State.clearLatches (s : State) (terms : List Term) : State := terms.foldl (fun s t => s.clearLatch t.channel) s

/-- The first channel in term order that is FAULTED (R125). -/
def Plant.firstFaulted (p : Plant) (terms : List Term) : Option ChannelIx :=
  (terms.find? fun t => (p.chan t.channel).state = .faulted).map (·.channel)

/-- A RETRY that left no channel FAULTED: WAITING with charge 0 and targets 0 at the back of its rank, and the pass it
starts (R124). -/
def Plant.retryAccepted (p : Plant) (eff : Nat) (o : Origin) (i : SlotIx) : Plant :=
  let p1 := (p.setAllot i { (p.allot i).halted with state := .waiting }).setCharge i 0
  ((p1.queueBack i).markChanged o i).passIf eff o true

/-- RETRY at the engine: the tests of R123 in order, then R124. -/
def retry : BlockStep := fun snd payload s =>
  if s.ctl.part ≠ .run then s.refuse .notRunning
  else
    match s.notActive snd with
    | some st => s.refuse st
    | none =>
      if payload.length ≠ 2 then s.refuse .badLength
      else
        match s.handleTest snd payload with
        | .error st => s.refuse st
        | .ok i =>
          if (s.plant.allot i).state ≠ .tripped then s.refuse .wrongState
          else
            let s1 := s.clearLatches (s.plant.allot i).terms
            match s1.plant.firstFaulted (s.plant.allot i).terms with
            | some n => (s1, { status := .channelFault, payload := [channelByte n] })
            | none =>
              let q := s1.plant.retryAccepted s1.lim.effective (originOf snd i) i
              (s1.setPlant q, .okWith ((q.handleOf i).bytes ++ [byte (q.allot i).state.code]))

/-- RETRY. -/
def execRetry (snd : Sender) (payload : List Byte) (s : State) : Host.Outcome State Fault Refusal :=
  s.request .retry snd payload retry

/-! ### SCAN (R143, R144, R180) -/

/-- The outcome nibble of a SCAN entry, 0Fh for no outcome (R180). -/
def AllotState.outcomeNibble (a : AllotState) : Nat :=
  match a.outcome? with
  | some o => o.code
  | none => 15

/-- The seven bytes of one SCAN entry (R180). -/
def Plant.scanEntry (p : Plant) (i : SlotIx) : List Byte :=
  let a := p.allot i
  (p.handleOf i).bytes
  ++ [byte (16 * (ownerByte a.owner).toNat + a.cls.val), byte (16 * a.state.code + a.state.outcomeNibble)]
  ++ word (32768 * a.changed.toNat + a.charge) ++ [byte (p.queuePosition i)]

/-- The slots a SCAN covers: the client's own allotments that are not FREE, or every owner's for the supervisor. -/
def Plant.scanned (p : Plant) : Sender → List SlotIx
  | .supervisor => p.inUse
  | .client c => p.ownedBy c

/-- The SCAN reply payload: a count, then the entries in ascending slot order (R180). -/
def Plant.scanReply (p : Plant) (snd : Sender) : List Byte :=
  byte (p.scanned snd).length :: (p.scanned snd).flatMap p.scanEntry

/-- SCAN at the engine: the tests of R143, the list, and the clearing of the flags of a client's listed
allotments (R143, R144). -/
def scan : BlockStep := fun snd payload s =>
  match s.notActive snd with
  | some st => s.refuse st
  | none =>
    if payload ≠ [] then s.refuse .badLength
    else
      (s.setPlant (if (clientOf snd).isSome then (s.plant.scanned snd).foldl Plant.clearChanged s.plant else s.plant),
       .okWith (s.plant.scanReply snd))

/-- SCAN. -/
def execScan (snd : Sender) (payload : List Byte) (s : State) : Host.Outcome State Fault Refusal :=
  s.request .scan snd payload scan

/-! ### SET_CLASSES (R42, R43) -/

/-- The six levels of a payload whose bytes are all 0 to 3. -/
def levelsOf (payload : List Byte) : Vector (Fin 4) 6 :=
  #v[Fin.ofNat 4 (byteAt payload 0), Fin.ofNat 4 (byteAt payload 1), Fin.ofNat 4 (byteAt payload 2),
     Fin.ofNat 4 (byteAt payload 3), Fin.ofNat 4 (byteAt payload 4), Fin.ofNat 4 (byteAt payload 5)]

/-- Store new levels; when one differs, regroup the queue and, with the stage empty, run a pass (R43). -/
def Plant.setLevels (p : Plant) (eff : Nat) (levels : Vector (Fin 4) 6) : Plant :=
  if levels = p.eng.levels then p
  else ({ p with eng := { p.eng with levels := levels } } : Plant).regroup.passIf eff .other true

/-- The reply of SET_CLASSES: the levels, then the classes from highest rank to lowest (R43, 10.4). -/
def classesReply (levels : Vector (Fin 4) 6) : List Byte :=
  levels.toList.map (fun l => byte l.val) ++ (classesByRank levels).map fun c => byte c.val

/-- SET_CLASSES at the engine (R42, R43). -/
def setClasses : BlockStep := fun snd payload s =>
  if snd ≠ .supervisor then s.refuse .supervisorOnly
  else if payload.length ≠ 6 then s.refuse .badLength
  else if payload.any (fun b => decide (3 < b.toNat)) then s.refuse .badField
  else
    (s.setPlant (s.plant.setLevels s.lim.effective (levelsOf payload)), .okWith (classesReply (levelsOf payload)))

/-- SET_CLASSES. -/
def execSetClasses (snd : Sender) (payload : List Byte) (s : State) : Host.Outcome State Fault Refusal :=
  s.request .setClasses snd payload setClasses

end Sys2Proof.Machine
end

