-- ==== Sys2Proof/Machine/Clients.lean ====
section
/-! DEFINITION. The client table (chapter 7): JOIN, LEAVE, PING, SET_CLIENT, and the window expiry. -/

namespace Sys2Proof.Machine

/-- A client release with the pass it starts, as one event of the engine (R94). -/
def Plant.clientRelease (p : Plant) (eff : Nat) (o : Origin) (retires : Bool) (c : ClientIx) : Plant :=
  let q := p.releaseClient o retires c
  q.passIf eff o (releaseTrigger p q)

/-! ### JOIN and LEAVE (R134, R135) -/

/-- A client becomes ACTIVE with its window timer started (R134). -/
def Client.activated (x : Client) : Client := { x with state := .active, timer := windowTimer x.window }

/-- The clients after a JOIN, without the reading of the retired count: an ACTIVE client's allotments are released, an
IDLE or LAPSED one becomes ACTIVE (R134). -/
def Plant.joined (p : Plant) (eff : Nat) (c : ClientIx) : Plant :=
  if (p.client c).state = .active then p.clientRelease eff (.ownerAll c) false c
  else p.setClient c (p.client c).activated

/-- How many allotments a JOIN releases (R134). -/
def Plant.joinCount (p : Plant) (c : ClientIx) : Nat :=
  if (p.client c).state = .active then p.releasedCount c else 0

/-- JOIN at the client table (R134). -/
def join : BlockStep := fun snd payload s =>
  match snd with
  | .supervisor => s.refuse .clientOnly
  | .client c =>
    if payload ≠ [] then s.refuse .badLength
    else
      let q := s.plant.joined s.lim.effective c
      let x := q.client c
      (s.setPlant (q.setClient c { x with retired := 0 }),
       .okWith ([byte (s.plant.joinCount c), byte x.retired] ++ word x.quota ++ [byte x.window] ++ word x.claimed))

/-- JOIN. -/
def execJoin (snd : Sender) (payload : List Byte) (s : State) : Host.Outcome State Fault Refusal :=
  s.request .join snd payload join

/-- A client leaves ACTIVE for another state, without a window timer (R135, R138). -/
def Plant.deactivate (p : Plant) (c : ClientIx) (st : ClientState) : Plant :=
  p.setClient c { p.client c with state := st, timer := none }

/-- LEAVE at the client table (R135). -/
def leave : BlockStep := fun snd payload s =>
  match snd with
  | .supervisor => s.refuse .clientOnly
  | .client c =>
    match s.notActive snd with
    | some st => s.refuse st
    | none =>
      if payload ≠ [] then s.refuse .badLength
      else
        let q := (s.plant.clientRelease s.lim.effective (.ownerAll c) false c).deactivate c .idle
        (s.setPlant q, .okWith (byte (s.plant.releasedCount c) :: word (q.client c).claimed))

/-- LEAVE. -/
def execLeave (snd : Sender) (payload : List Byte) (s : State) : Host.Outcome State Fault Refusal :=
  s.request .leave snd payload leave

/-! ### PING (R142) -/

/-- The client id byte of a record, 00h when UNSET. -/
def Client.idByte (x : Client) : Byte := x.id.getD 0

/-- The PING reply to a client (R142, 10.4). -/
def pingClientReply (s : State) (c : ClientIx) : List Byte :=
  let x := s.plant.client c
  let own := s.plant.ownedBy c
  [byte (c.val + 1), x.idByte, s.ctl.part.code] ++ word x.quota ++ [byte x.window] ++ word x.claimed
  ++ [byte own.length, byte (own.filter fun i => (s.plant.allot i).changed).length, byte x.retired,
      flag (s.plant.attention c)]

/-- The PING reply to the supervisor (R142, 10.4). -/
def pingSupervisorReply (s : State) : List Byte :=
  s.ctl.part.code :: allClients.flatMap fun c =>
    let x := s.plant.client c
    [x.idByte, x.state.code] ++ word x.claimed ++ [byte x.retired, flag (s.plant.attention c)]

/-- PING at the client table; a client's retired count is cleared after the reply is built (R142). -/
def ping : BlockStep := fun snd payload s =>
  match s.notActive snd with
  | some st => s.refuse st
  | none =>
    if payload ≠ [] then s.refuse .badLength
    else
      match snd with
      | .supervisor => (s, .okWith (pingSupervisorReply s))
      | .client c =>
        (s.setPlant (s.plant.setClient c { s.plant.client c with retired := 0 }), .okWith (pingClientReply s c))

/-- PING. -/
def execPing (snd : Sender) (payload : List Byte) (s : State) : Host.Outcome State Fault Refusal :=
  s.request .ping snd payload ping

/-! ### SET_CLIENT (R132, R133) -/

/-- The four forms of SET_CLIENT (07 section 7.3). -/
inductive SetClientForm where
  | add | change | idChange | removal
deriving DecidableEq, Repr

/-- The form the id field selects for a record. -/
def setClientForm (x : Client) (id : Byte) : SetClientForm :=
  if id = 0 then .removal
  else if x.state = .unset then .add
  else if x.id = some id then .change
  else .idChange

/-- Order 3 of R132: the ranges; the slot number is tested with them. -/
def setClientFieldsOk (p : List Byte) : Bool :=
  decide (1 ≤ byteAt p 0 ∧ byteAt p 0 ≤ 8) && decide (byteAt p 1 ≤ 0x7F)
  && decide (wordAt p 2 ≤ Config.maxUnits) && decide (byteAt p 5 ≤ 1)

/-- Another configured slot holds the id (order 6 of R132). -/
def Plant.idTaken (p : Plant) (c : ClientIx) (id : Byte) : Bool :=
  allClients.any fun d => d ≠ c && (p.client d).state ≠ .unset && (p.client d).id = some id

/-- Orders 4 to 7 of R132. -/
def State.setClientTest (s : State) (c : ClientIx) (id : Byte) (quota : Nat) : Option Status :=
  let x := s.plant.client c
  let form := setClientForm x id
  if form ≠ .change ∧ s.ctl.part ≠ .setup then some .notSetup
  else if (form = .idChange ∨ form = .removal) ∧ x.state = .active then some .wrongState
  else if (form = .add ∨ form = .idChange) ∧ s.plant.idTaken c id = true then some .badField
  else if form ≠ .removal ∧ quota < x.claimed then some .quotaInUse
  else none

/-- The window timer after a change: handled by a new window of an ACTIVE client, kept otherwise (R133). -/
def Client.changedTimer (x : Client) (window : Nat) : Option Nat :=
  if x.state = .active ∧ window ≠ x.window then windowTimer window else x.timer

/-- The record after an accepted SET_CLIENT, by its form (R133). -/
def Client.configure (x : Client) (id : Byte) (quota window : Nat) (alert : Bool) : Client :=
  match setClientForm x id with
  | .add =>
    { x with id := some id, quota := quota, window := window, alert := alert, state := .idle, claimed := 0,
             retired := 0, timer := none }
  | .change => { x with quota := quota, window := window, alert := alert, timer := x.changedTimer window }
  | .idChange =>
    { x with id := some id, quota := quota, window := window, alert := alert, state := .idle, retired := 0,
             timer := none }
  | .removal => if x.state = .unset then x else Client.reset

/-- The port empties the reply slot of a client whose id changed or was removed; the removal of an UNSET slot changes
nothing (R133, R160). -/
def Port.emptySlotFor (t : Port) (c : ClientIx) (x : Client) (form : SetClientForm) : Port :=
  match form with
  | .idChange => t.setSlot (.client c) none
  | .removal => if x.state = .unset then t else t.setSlot (.client c) none
  | .add | .change => t

/-- The reply of SET_CLIENT (R133, 10.4). -/
def clientReply (c : ClientIx) (x : Client) : List Byte :=
  [byte (c.val + 1), x.idByte] ++ word x.quota ++ [byte x.window, flag x.alert, x.state.code]
  ++ word x.claimed ++ [byte x.retired]

/-- SET_CLIENT at the client table (R132, R133). -/
def setClient : BlockStep := fun snd p s =>
  if snd ≠ .supervisor then s.refuse .supervisorOnly
  else if p.length ≠ 6 then s.refuse .badLength
  else if !setClientFieldsOk p then s.refuse .badField
  else
    let c : ClientIx := Fin.ofNat 8 (byteAt p 0 - 1)
    let id := p.getD 1 0
    match s.setClientTest c id (wordAt p 2) with
    | some st => s.refuse st
    | none =>
      let x := s.plant.client c
      let y := x.configure id (wordAt p 2) (byteAt p 4) (byteAt p 5 == 1)
      ({ s.setPlant (s.plant.setClient c y) with port := s.port.emptySlotFor c x (setClientForm x id) },
       .okWith (clientReply c y))

/-- SET_CLIENT. -/
def execSetClient (snd : Sender) (payload : List Byte) (s : State) : Host.Outcome State Fault Refusal :=
  s.request .setClient snd payload setClient

/-! ### Lapse (R138) -/

/-- The lapse of a client: the client release, with flags and retire reports, then LAPSED without a timer. -/
def Plant.lapse (p : Plant) (eff : Nat) (c : ClientIx) : Plant :=
  (p.clientRelease eff .other true c).deactivate c .lapsed

/-- WINDOW_EXPIRY (R138). A client that is not ACTIVE, or has no timer, does not expire (R137). -/
def execWindowExpiry (c : ClientIx) (s : State) : Host.Outcome State Fault Refusal :=
  s.taking fun s =>
    if (s.plant.client c).state = .active ∧ (s.plant.client c).timer.isSome then
      s.setPlant (s.plant.lapse s.lim.effective c)
    else s

end Sys2Proof.Machine
end

