-- ==== Sys2Proof/Machine/Control.lean ====
section
/-! DEFINITION. The control unit (chapter 9): COMMIT, HALT, RESTART, and the resets. -/

namespace Sys2Proof.Machine

/-- Move the part to a part state. -/
def State.setPart (s : State) (part : PartState) : State := { s with ctl := { s.ctl with part := part } }

/-! ### COMMIT (R168) -/

/-- The reply of COMMIT (R168, 10.4). -/
def commitReply (s : State) : List Byte :=
  let enabled := allChannels.filter fun n => (s.plant.chan n).enabled
  [s.ctl.part.code, s.lim.derate.code] ++ word s.lim.effective
  ++ [byte enabled.length, byte (enabled.filter fun n => (s.plant.chan n).state = .faulted).length,
      byte (allClients.filter fun c => (s.plant.client c).state ≠ .unset).length]

/-- COMMIT at the control unit: RUN, with the effective ceiling recomputed in the same event (R168, R30). -/
def commit : BlockStep := fun snd payload s =>
  if snd ≠ .supervisor then s.refuse .supervisorOnly
  else if s.ctl.part ≠ .setup then s.refuse .notSetup
  else if payload ≠ [] then s.refuse .badLength
  else
    let s1 := (s.setPart .run).recompute
    (s1, .okWith (commitReply s1))

/-- COMMIT. -/
def execCommit (snd : Sender) (payload : List Byte) (s : State) : Host.Outcome State Fault Refusal :=
  s.request .commit snd payload commit

/-! ### HALT (R170, R171) -/

/-- HALT's work on one allotment: retired unless FALLING/FREE, then freed (R170). -/
def Plant.haltOne (p : Plant) (i : SlotIx) : Plant :=
  (if (p.allot i).state = .falling .free then p else p.retire i).freeSlot i

/-- HALT's work on engine, output stage and client table (R170): every allotment freed in slot order, every channel cut,
the collections emptied, the committed charge 0. -/
def Plant.halt (p : Plant) : Plant :=
  let p1 := p.inUse.foldl Plant.haltOne p
  { p1 with
    eng := { p1.eng with queue := [], grants := [], stage := none, committed := 0 }
    out := p1.out.cut allChannels }

/-- How many allotments HALT retires. -/
def Plant.haltRetired (p : Plant) : Nat := (p.inUse.filter fun i => (p.allot i).state ≠ .falling .free).length

/-- The part after an accepted HALT: SETUP with effective ceiling 0 and no pass (R170). -/
def State.halted (s : State) : State :=
  { (s.setPlant s.plant.halt).setPart .setup with lim := { s.lim with effective := 0 } }

/-- HALT at the control unit (R170, R171). -/
def halt : BlockStep := fun snd payload s =>
  if snd ≠ .supervisor then s.refuse .supervisorOnly
  else if s.ctl.part ≠ .run then s.refuse .notRunning
  else if payload ≠ [] then s.refuse .badLength
  else
    (s.halted,
     .okWith [s.halted.ctl.part.code, byte s.plant.inUse.length, byte s.plant.haltRetired])

/-- HALT. -/
def execHalt (snd : Sender) (payload : List Byte) (s : State) : Host.Outcome State Fault Refusal :=
  s.request .halt snd payload halt

/-! ### Resets (R174 to R177) -/

/-- Every block at its reset values, with a reset cause and a bus address; the pins and the queue of commands stay
(R174, R175). The derate state is that of DERATEn's level (R25). -/
def State.blocksReset (s : State) (cause : ResetCause) (address : Nat) (powerOnPending : Bool) : State :=
  { s with
    plant := Plant.reset
    lim := LimitUnit.reset s.pins.derateLow
    port := Port.reset address
    ctl := { part := .setup, cause := cause, restartPending := false, powerOnPending := powerOnPending }
    returned := none }

/-- A reset asserts (R174): operations in flight end and nothing is kept but the reset cause; the blocks stand at their
reset values (log entry 9). -/
def State.assertReset (s : State) : State := s.blocksReset s.ctl.cause s.port.address s.ctl.powerOnPending

/-- A reset ends (R175): every block takes its reset values, the straps are read, and the cause is recorded. -/
def State.endReset (s : State) (cause : ResetCause) : State := s.blocksReset cause s.pins.busAddress false

/-- RESTART at the control unit: restart pending, and nothing else changes (R173). -/
def restart : BlockStep := fun snd payload s =>
  if snd ≠ .supervisor then s.refuse .supervisorOnly
  else if payload ≠ [] then s.refuse .badLength
  else ({ s with ctl := { s.ctl with restartPending := true } }, .okWith [s.ctl.part.code])

/-- RESTART. -/
def execRestart (snd : Sender) (payload : List Byte) (s : State) : Host.Outcome State Fault Refusal :=
  s.request .restart snd payload restart

/-- RESTART_RESET: the control unit carries out the reset RESTART ordered (R173). While the exchange of the RESTART frame
is still open at the port, its end carries the reset out (R165, log entry 6); with no restart pending there is none. -/
def execRestartReset (s : State) : Host.Outcome State Fault Refusal :=
  s.taking fun s => if s.ctl.restartPending && !s.port.restartReply then s.endReset .restart else s

/-- RESETN_FALLS: a fall of the pin asserts a reset (R176). A pin that is low already does not fall. -/
def execResetnFalls (s : State) : Host.Outcome State Fault Refusal :=
  if s.pins.resetnHigh then .next ({ s with pins := { s.pins with resetnHigh := false } } : State).assertReset
  else .next s

/-- RESETN_RISES: the reset ends with cause RESET_PIN (R175, R176), except while the supply is invalid or power-on
start-up has not ended, which then begins again (R177). -/
def execResetnRises (s : State) : Host.Outcome State Fault Refusal :=
  if s.pins.resetnHigh then .next s
  else
    let s1 : State := { s with pins := { s.pins with resetnHigh := true } }
    if s1.inReset then .next s1 else .next (s1.endReset .resetPin)

/-- SUPPLY_VALID: power-on start-up begins, or waits for RESETn (R177). -/
def execSupplyValid (s : State) : Host.Outcome State Fault Refusal :=
  .next { s with pins := { s.pins with supplyOk := true } }

/-- SUPPLY_FAILURE: a power-on reset asserts (R177). A supply that is invalid already does not fail. -/
def execSupplyFailure (s : State) : Host.Outcome State Fault Refusal :=
  if s.pins.supplyOk then
    .next ({ s with pins := { s.pins with supplyOk := false }
                    ctl := { s.ctl with powerOnPending := true } } : State).assertReset
  else .next s

/-- STARTUP_END: power-on start-up completes and the reset ends with cause POWER_ON (R177). Start-up runs while the
supply is valid, RESETn is high and the power-on reset has not ended. -/
def execStartupEnd (s : State) : Host.Outcome State Fault Refusal :=
  if s.pins.supplyOk && s.pins.resetnHigh && s.ctl.powerOnPending then .next (s.endReset .powerOn) else .next s

end Sys2Proof.Machine
end

