-- ==== Sys2Proof/Machine/ExchangePort.lean ====
section
/-! DEFINITION. The exchange port (chapter 8): the write phase, the handling of a frame up to its owning block, the read
phase, the summary frame, bus errors and the exchange timer. -/

namespace Sys2Proof.Machine

/-! ### What the port drives -/

/-- The port holds SCL low: in EXEC, and after an address byte that waits for handling to end (R148, R150, R152). -/
def Port.sclLow (t : Port) : Bool := t.state == .exec || t.held.isSome

/-- The byte the port is sending in TX or SUMMARY: the next byte of the frame in hand, then filler; none after a NACK or
before the frame is in hand (R151). -/
def Port.sendingByte (t : Port) : Option Byte :=
  if t.stopped || !(t.state == .tx || t.state == .summary) then none
  else t.inHand.map fun r => r.getD t.position Config.filler

/-! ### Phases -/

/-- The port returns to IDLE: no timer, nothing in hand, no address byte held (R151, R162, R163). -/
def Port.toIdle (t : Port) : Port :=
  { t with state := .idle, timer := none, inHand := none, position := 0, stopped := false, held := none,
           restartReply := if t.state = .tx then false else t.restartReply }

/-- A write phase begins: empty buffer, mark clear, timer at 50 ms, RX. While the frame before it is still being handled
the address byte is held, not acknowledged yet (R148, R149). -/
def Port.beginWrite (t : Port) : Port :=
  { t with state := .rx, buffer := [], overLength := false, inHand := none, position := 0, stopped := false,
           timer := some Config.exchangeTimerMs
           held := if t.handling then some .write else none
           acked := !t.handling }

/-- A frame comes into hand and its first byte is sent next (R150, R152). -/
def Port.send (t : Port) (st : PortState) (frame : List Byte) : Port :=
  { t with state := st, inHand := some frame, position := 0, stopped := false, acked := true }

/-! ### The summary frame (R153, 10.6) -/

/-- The attention byte: bit n - 1 set when client slot n has attention. -/
def Plant.attentionByte (p : Plant) : Byte :=
  byte ((allClients.map fun c => if p.attention c then 2 ^ c.val else 0).sum)

/-- The summary frame, read at the moment it is built. -/
def State.summaryFrame (s : State) : List Byte :=
  replyFrame 0 .ok
    ([s.ctl.part.code, s.ctl.cause.code, s.lim.derate.code] ++ word s.lim.effective ++ word s.plant.eng.committed
     ++ [byte s.plant.eng.queue.length, flag s.plant.eng.stage.isSome, byte s.plant.inUse.length, flag s.alertLow,
         s.plant.attentionByte])

/-- Replace the port. -/
def State.setPort (s : State) (t : Port) : State := { s with port := t }

/-- A bare read: timer at 50 ms and the summary frame built and sent; while a frame is still being handled the address
byte is held (R152). -/
def State.beginBareRead (s : State) : State :=
  let t := { s.port with timer := some Config.exchangeTimerMs }
  if s.port.handling then
    s.setPort { t with state := .summary, inHand := none, position := 0, stopped := false, held := some .read,
                       acked := false }
  else s.setPort (t.send .summary s.summaryFrame)

/-! ### The end of a RESTART exchange (R165) -/

/-- The frame handled or answered is an accepted RESTART whose reset has not been carried out. -/
def State.restartExchange (s : State) : Bool := s.port.restartReply && s.ctl.restartPending

/-- The end of a read phase: the reset when the phase answered an accepted RESTART (R165, R173), else what follows.
DESIGN CHOICE (log entry 28): where a repeated START with the own address ends that phase, the spec puts the reset at that
START and does not say whether the address byte behind it is acknowledged; in the model the reset is all that happens, the
byte stays unacknowledged and begins no phase, and the port is IDLE. -/
def State.orRestart (s : State) (s' : State) : State :=
  if s.port.state = .tx ∧ s.restartExchange = true then s.endReset .restart else s'

/-! ### The write phase (R148) -/

/-- START_OWN_WRITE: in IDLE a write phase begins. -/
def execStartOwnWrite (s : State) : Host.Outcome State Fault Refusal :=
  s.taking fun s => if s.port.state = .idle then s.setPort s.port.beginWrite else s

/-- A byte written in RX: the first 24 are stored and acknowledged; a further one is not, and sets the over-length
mark (R148). -/
def Port.takeByte (t : Port) (b : Byte) : Port :=
  if t.buffer.length < Config.frameBufferBytes && !t.overLength then
    { t with buffer := t.buffer ++ [b], acked := true }
  else { t with overLength := true, acked := false }

/-- WRITE_BYTE: a byte in RX; while SCL is held no byte can be written. -/
def execWriteByte (b : Byte) (s : State) : Host.Outcome State Fault Refusal :=
  s.taking fun s => if s.port.state = .rx ∧ s.port.held = none then s.setPort (s.port.takeByte b) else s

/-! ### Handling a frame (R154 to R158) -/

/-- The sender an id byte names: the supervisor for 00h, the client of the slot in IDLE, ACTIVE or LAPSED that holds
it (R131). -/
def Plant.senderOf (p : Plant) (id : Byte) : Option Sender :=
  if id = 0 then some .supervisor
  else (allClients.find? fun c => (p.client c).state ≠ .unset && (p.client c).id = some id).map .client

/-- What handling a frame at the port comes to. -/
inductive Handling where
  /-- A reply that no reply slot keeps: CHECK_FAIL, NOT_CLIENT, SEQ_REUSE, or the stored reply of a repeat. -/
  | answered (reply : List Byte)
  /-- UNKNOWN_REQUEST, kept in the sender's reply slot (R158). -/
  | unknown (snd : Sender) (reply : List Byte)
  /-- A request passed to its owning block (R158). -/
  | handedOver (h : Handed)
deriving DecidableEq, Repr

/-- The replay check and the dispatch of a frame from a known sender (R157, R158). -/
def Port.replayAndDispatch (t : Port) (snd : Sender) (frame : List Byte) : Handling :=
  let sequence := frame.getD 1 0
  let fresh : Handling :=
    match Request.ofCode (frame.getD 2 0) with
    | none => .unknown snd (replyFrame sequence .unknownRequest [])
    | some r => .handedOver { sender := snd, request := r, payload := framePayload frame, sequence, frame }
  match t.slotOf snd with
  | none => fresh
  | some x =>
    if x.sequence = sequence then
      if x.request = frame then .answered x.reply else .answered (replyFrame sequence .seqReuse [])
    else fresh

/-- Steps 1 to 5 of handling up to the owning block: the plant after the window restart (R131), and what it comes to. -/
def State.examine (s : State) (frame : List Byte) (overLength : Bool) : Plant × Handling :=
  let sequence := frame.getD 1 0
  if !frameCheckOk frame overLength then (s.plant, .answered (replyFrame sequence .checkFail []))
  else
    match s.plant.senderOf (frame.getD 0 0) with
    | none => (s.plant, .answered (replyFrame sequence .notClient []))
    | some snd => (s.plant.restartWindow snd, s.port.replayAndDispatch snd frame)

/-- What the port does at the end of a write phase whose reply is in hand at once (R149, R150). A reply that is not sent
does not stand as the reply in hand (DESIGN CHOICE, log entry 29). -/
def Port.endWriteAnswered (t : Port) (e : PhaseEnd) (reply : List Byte) : Port :=
  match e with
  | .restartRead => t.send .tx reply
  | .restartWrite => t.beginWrite
  | .restartOther => { t.toIdle with acked := false }
  | .stop => t.toIdle

/-- What the port does at the end of a write phase whose request is with its owning block (R149, R150). -/
def Port.endWriteHanded (t : Port) (e : PhaseEnd) : Port :=
  match e with
  | .restartRead => { t with state := .exec, acked := true }
  | .restartWrite => t.beginWrite
  | .restartOther => { t.toIdle with acked := false }
  | .stop => t.toIdle

/-- The end of a write phase: the frame is handled (R149). -/
def State.endWritePhase (s : State) (e : PhaseEnd) : State :=
  let frame := s.port.buffer
  let x := s.examine frame s.port.overLength
  let s1 := s.setPlant x.1
  match x.2 with
  | .answered reply => s1.setPort (s.port.endWriteAnswered e reply)
  | .unknown snd reply => s1.setPort ((s.port.keep snd frame reply).endWriteAnswered e reply)
  | .handedOver h => s1.setPort (({ s.port with handling := true, handed := some h } : Port).endWriteHanded e)

/-- WRITE_PHASE_END: in RX, with SCL not held. -/
def execWritePhaseEnd (e : PhaseEnd) (s : State) : Host.Outcome State Fault Refusal :=
  s.taking fun s => if s.port.state = .rx ∧ s.port.held = none then s.endWritePhase e else s

/-! ### The reply comes into hand (R150, R163, R165) -/

/-- The reply to the handled frame comes into hand and handling ends. In EXEC it is sent; otherwise an accepted RESTART
resets the part now, and an address byte that waited is acknowledged and its phase begins. A reply that is not sent does
not stand as the reply in hand, which 8.2 describes as bytes to be sent: its item stays empty (DESIGN CHOICE, log entry
29). -/
def State.takeReplyInHand (s : State) (reply : List Byte) : State :=
  let t := { s.port with handling := false, built := none }
  if s.port.state = .exec then s.setPort (t.send .tx reply)
  else if s.restartExchange then s.endReset .restart
  else
    match s.port.held with
    | none => s.setPort t
    | some .write => s.setPort { t with held := none, acked := true }
    | some .read => s.setPort (({ t with held := none } : Port).send .summary s.summaryFrame)

/-- REPLY_IN_HAND: when the owning block has returned for the handled frame. -/
def execReplyInHand (s : State) : Host.Outcome State Fault Refusal :=
  s.taking fun s =>
    match s.port.built with
    | none => s
    | some reply => s.takeReplyInHand reply

/-! ### The read phase (R151, R152) -/

/-- The port is sending: TX or SUMMARY with its address byte acknowledged. -/
def Port.reading (t : Port) : Bool := (t.state == .tx || t.state == .summary) && t.held.isNone

/-- The master's acknowledge bit after a sent byte (R151). -/
def Port.takeAck (t : Port) (ack : Bool) : Port :=
  if t.stopped then t
  else if ack then { t with position := min (t.position + 1) (t.inHand.getD []).length }
  else { t with stopped := true }

/-- READ_BYTE_ACK: in TX or SUMMARY. -/
def execReadByteAck (ack : Bool) (s : State) : Host.Outcome State Fault Refusal :=
  s.taking fun s => if s.port.reading then s.setPort (s.port.takeAck ack) else s

/-- The end of a read phase (8.2.1): IDLE, a bare read, or a new write phase. -/
def State.endReadPhase (s : State) (e : PhaseEnd) : State :=
  let s1 := s.setPort s.port.toIdle
  s.orRestart <|
    match e with
    | .restartRead => s1.beginBareRead
    | .restartWrite => s1.setPort s1.port.beginWrite
    | .restartOther => s1.setPort { s1.port with acked := false }
    | .stop => s1

/-- READ_PHASE_END: in TX or SUMMARY. -/
def execReadPhaseEnd (e : PhaseEnd) (s : State) : Host.Outcome State Fault Refusal :=
  s.taking fun s => if s.port.reading then s.endReadPhase e else s

/-- BARE_READ: from IDLE, or by a repeated START after a read phase (R152). -/
def execBareRead (s : State) : Host.Outcome State Fault Refusal :=
  s.taking fun s =>
    if s.port.state = .idle then s.beginBareRead
    else if s.port.reading then s.endReadPhase .restartRead
    else s

/-! ### Bus errors and the exchange timer (R162, R163) -/

/-- The frame being received is discarded: in RX the buffer empties (R162). -/
def Port.discard (t : Port) : Port :=
  if t.state = .rx then { t with buffer := [], overLength := false } else t

/-- BUS_ERROR: in RX, TX or SUMMARY, while no SCL hold keeps the bus still (R162). -/
def execBusError (s : State) : Host.Outcome State Fault Refusal :=
  s.taking fun s =>
    if (s.port.state = .rx ∧ s.port.held = none) ∨ s.port.reading = true then
      s.orRestart (s.setPort s.port.discard.toIdle)
    else s

/-- EXCHANGE_TIMER_EXPIRY: the port releases the bus and returns to IDLE (R163). In EXEC the request stays with its
owning block. With no timer there is no expiry. -/
def execExchangeTimerExpiry (s : State) : Host.Outcome State Fault Refusal :=
  s.taking fun s => if s.port.timer.isSome then s.orRestart (s.setPort s.port.discard.toIdle) else s

end Sys2Proof.Machine
end

