-- ==== Sys2Proof/Machine/Limits.lean ====
section
/-! DEFINITION. The limit unit (chapter 2): SET_LIMITS, DERATEn and the derate hold. -/

namespace Sys2Proof.Machine

/-- The reply of SET_LIMITS, as the figures stand after the event (R32, 10.4). -/
def limitsReply (s : State) : List Byte :=
  word s.lim.configured ++ word s.lim.derated ++ [byte s.lim.hold, s.lim.derate.code]
  ++ word s.lim.effective ++ word s.plant.eng.committed

/-- Store the two ceilings and the hold, and recompute the effective ceiling (R32). -/
def State.storeLimits (s : State) (configured derated hold : Nat) : State :=
  ({ s with lim := { s.lim with configured := configured, derated := derated, hold := hold } } : State).recompute

/-- SET_LIMITS at the limit unit (R31, R32). -/
def setLimits : BlockStep := fun snd p s =>
  if snd ≠ .supervisor then s.refuse .supervisorOnly
  else if p.length ≠ 5 then s.refuse .badLength
  else if Config.maxUnits < wordAt p 0 ∨ Config.maxUnits < wordAt p 2 then s.refuse .badField
  else
    let s1 := s.storeLimits (wordAt p 0) (wordAt p 2) (byteAt p 4)
    (s1, .okWith (limitsReply s1))

/-- SET_LIMITS. -/
def execSetLimits (snd : Sender) (payload : List Byte) (s : State) : Host.Outcome State Fault Refusal :=
  s.request .setLimits snd payload setLimits

/-- Write the level of DERATEn. -/
def State.setDerateLow (s : State) (low : Bool) : State := { s with pins := { s.pins with derateLow := low } }

/-- Put the limit unit in a derate state with its hold timer. -/
def State.setDerate (s : State) (d : DerateState) (timer : Option Nat) : State :=
  { s with lim := { s.lim with derate := d, holdTimer := timer } }

/-- DERATEn falls at the limit unit (R27): from NORMAL the effective ceiling is recomputed; from HOLDING the timer is
cancelled and the ceiling stays. -/
def State.derateFalls (s : State) : State :=
  match s.lim.derate with
  | .normal => (s.setDerate .derated s.lim.holdTimer).recompute
  | .holding => s.setDerate .derated none
  | .derated => s

/-- DERATEN_FALLS. A pin that is low already does not fall; while a reset is asserted only the level changes (R25,
R174). -/
def execDeratenFalls (s : State) : Host.Outcome State Fault Refusal :=
  if s.pins.derateLow then .next s else (s.setDerateLow true).taking State.derateFalls

/-- DERATEn rises at the limit unit (R28): DERATED becomes HOLDING with its timer, or NORMAL at once with a hold
of 0. -/
def State.derateRises (s : State) : State :=
  match s.lim.derate with
  | .derated =>
    if s.lim.hold = 0 then (s.setDerate .normal none).recompute
    else s.setDerate .holding (some (Config.holdUnitMs * s.lim.hold))
  | .normal => s
  | .holding => s

/-- DERATEN_RISES. A pin that is high already does not rise; while a reset is asserted only the level changes. -/
def execDeratenRises (s : State) : Host.Outcome State Fault Refusal :=
  if s.pins.derateLow then (s.setDerateLow false).taking State.derateRises else .next s

/-- HOLD_EXPIRY (R29): HOLDING becomes NORMAL and the effective ceiling is recomputed. Outside HOLDING there is no timer
to expire. -/
def execHoldExpiry (s : State) : Host.Outcome State Fault Refusal :=
  s.taking fun s => if s.lim.derate = .holding then (s.setDerate .normal none).recompute else s

end Sys2Proof.Machine
end

