-- ==== Sys2Proof/Machine/Settling.lean ====
section
/-! DEFINITION. Events the engine takes of itself: settled reports (R72 to R74), the tenths of a run timer (R76, R77) and
the run-limit expiry (R78). -/

namespace Sys2Proof.Machine

/-! ### Settled reports (R72 to R74) -/

/-- A RISING allotment settles into RUNNING (R73). -/
def Plant.settleRunning (p : Plant) (eff : Nat) (i : SlotIx) : Plant :=
  let q := ((p.setState i .running).setCharge i (p.allot i).requestCost).markChanged .other i
  q.passIf eff .other (decide (q.eng.committed < p.eng.committed))

/-- The end of a fall, by its outcome, without what follows it (R74). -/
def Plant.endFall (p : Plant) (i : SlotIx) : FallOutcome → Plant
  | .running => ((p.setState i .running).setCharge i (p.allot i).requestCost).markChanged .other i
  | .reduced => (((p.setState i .reduced).setCharge i (p.allot i).floorCost).queueBack i).markChanged .other i
  | .waiting => ((((p.setState i .waiting).setCharge i 0).leaveGrants i).queueFront i).markChanged .other i
  | .free => ((p.leaveGrants i).markChanged .other i).freeSlot i

/-- Whether the end of a fall gives a trigger of R52: an entry joined the queue, or the committed charge fell (R74). -/
def fallTrigger (before after : Plant) (o : FallOutcome) : Bool :=
  o == .reduced || o == .waiting || decide (after.eng.committed < before.eng.committed)

/-- A FALLING allotment's fall ends: its new state, then the stage test or the pass (R74). -/
def Plant.settleFall (p : Plant) (eff : Nat) (i : SlotIx) (o : FallOutcome) : Plant :=
  (p.endFall i o).settleStage eff (fallTrigger p (p.endFall i o) o)

/-- An allotment whose unsettled set emptied settles by its state (R73, R74). -/
def Plant.settle (p : Plant) (eff : Nat) (i : SlotIx) : Plant :=
  match (p.allot i).state with
  | .rising => p.settleRunning eff i
  | .falling o => p.settleFall eff i o
  | .free | .waiting | .staged | .running | .reduced | .tripped => p

/-- The test of R72: the allotment is RISING or FALLING, the channel is in its unsettled set, and the report carries the
identity of the command in flight. -/
def Allotment.takesReport (a : Allotment) (r : Report) : Bool :=
  (a.state == .rising || a.state.outcome?.isSome) && a.unsettled.contains r.channel && r.command == some a.commandId

/-- The engine takes or discards one settled report (R72). -/
def Plant.takeReport (p : Plant) (eff : Nat) (r : Report) : Plant :=
  match p.eng.binding[r.channel] with
  | none => p
  | some h =>
    let a := p.allot h.slot
    if a.takesReport r then
      let rest := a.unsettled.erase r.channel
      let q := p.setAllot h.slot { a with unsettled := rest }
      if rest = [] then q.settle eff h.slot else q
    else p

/-- SETTLED_REPORT: the engine takes the oldest report made by the channel and not taken yet (R72, R107). -/
def execSettledReport (n : ChannelIx) (s : State) : Host.Outcome State Fault Refusal :=
  s.taking fun s =>
    match s.plant.out.reports.find? fun r => r.channel == n with
    | none => s
    | some r =>
      let s1 := s.onOutput fun o => { o with reports := o.reports.eraseP fun r => r.channel == n }
      s1.setPlant (s1.plant.takeReport s1.lim.effective r)

/-! ### Run timers (R76 to R78) -/

/-- The states in which a run timer counts (R76). -/
def AllotState.runs (st : AllotState) : Bool := st == .rising || st == .running || st == .reduced

/-- The run-limit expiry of slot `i`: a fall to FREE with nothing left to run, flagged and retired, and a pass when the
committed charge fell (R78). -/
def Plant.expireRun (p : Plant) (eff : Nat) (i : SlotIx) : Plant :=
  let a := p.allot i
  let p1 := p.setAllot i { a with run := a.run.map fun r => { r with remaining := 0, counted := 0 } }
  let p2 := ((p1.leaveQueue i).fallToFree i).markChanged .other i
  let q := p2.retire i
  q.passIf eff .other (decide (q.eng.committed < p.eng.committed))

/-- One tenth of counted time of slot `i` (R76); the tenth in which the remaining run time reaches 0 is the
expiry (R78). -/
def Plant.runTenth (p : Plant) (eff : Nat) (i : SlotIx) : Plant :=
  let a := p.allot i
  match a.run with
  | none => p
  | some r =>
    if !a.state.runs then p
    else if r.remaining ≤ 1 then p.expireRun eff i
    else p.setAllot i { a with run := some { r with remaining := r.remaining - 1, counted := 0 } }

/-- RUN_TIMER_TENTH (R76). A paused timer, and a slot without one, count nothing. -/
def execRunTimerTenth (i : SlotIx) (s : State) : Host.Outcome State Fault Refusal :=
  s.taking fun s => s.setPlant (s.plant.runTenth s.lim.effective i)

/-- RUN_LIMIT_EXPIRY (R78): the tenths before it have passed (log entry 3). A paused timer, and a slot without one, do
not expire. -/
def execRunLimitExpiry (i : SlotIx) (s : State) : Host.Outcome State Fault Refusal :=
  s.taking fun s =>
    if (s.plant.allot i).run.isSome && (s.plant.allot i).state.runs then
      s.setPlant (s.plant.expireRun s.lim.effective i)
    else s

end Sys2Proof.Machine
end

