-- ==== Sys2Proof/Machine/Dispatch.lean ====
section
/-! DEFINITION. One arm per command: its effect on everything but the queue. -/

namespace Sys2Proof.Machine

def exec (i : Instr) (s : State) : Host.Outcome State Fault Refusal :=
  match i with
  | .claim snd payload => Sys2Proof.Machine.execClaim snd payload s
  | .query snd payload => Sys2Proof.Machine.execQuery snd payload s
  | .reshape snd payload => Sys2Proof.Machine.execReshape snd payload s
  | .release snd payload => Sys2Proof.Machine.execRelease snd payload s
  | .retry snd payload => Sys2Proof.Machine.execRetry snd payload s
  | .scan snd payload => Sys2Proof.Machine.execScan snd payload s
  | .join snd payload => Sys2Proof.Machine.execJoin snd payload s
  | .leave snd payload => Sys2Proof.Machine.execLeave snd payload s
  | .ping snd payload => Sys2Proof.Machine.execPing snd payload s
  | .setClient snd payload => Sys2Proof.Machine.execSetClient snd payload s
  | .setChannel snd payload => Sys2Proof.Machine.execSetChannel snd payload s
  | .setTiming snd payload => Sys2Proof.Machine.execSetTiming snd payload s
  | .clearFault snd payload => Sys2Proof.Machine.execClearFault snd payload s
  | .setLimits snd payload => Sys2Proof.Machine.execSetLimits snd payload s
  | .setClasses snd payload => Sys2Proof.Machine.execSetClasses snd payload s
  | .commit snd payload => Sys2Proof.Machine.execCommit snd payload s
  | .halt snd payload => Sys2Proof.Machine.execHalt snd payload s
  | .restart snd payload => Sys2Proof.Machine.execRestart snd payload s
  | .restartReset => Sys2Proof.Machine.execRestartReset s
  | .startOwnWrite => Sys2Proof.Machine.execStartOwnWrite s
  | .writeByte b => Sys2Proof.Machine.execWriteByte b s
  | .writePhaseEnd e => Sys2Proof.Machine.execWritePhaseEnd e s
  | .replyInHand => Sys2Proof.Machine.execReplyInHand s
  | .bareRead => Sys2Proof.Machine.execBareRead s
  | .readByteAck a => Sys2Proof.Machine.execReadByteAck a s
  | .readPhaseEnd e => Sys2Proof.Machine.execReadPhaseEnd e s
  | .busError => Sys2Proof.Machine.execBusError s
  | .exchangeTimerExpiry => Sys2Proof.Machine.execExchangeTimerExpiry s
  | .deratenFalls => Sys2Proof.Machine.execDeratenFalls s
  | .deratenRises => Sys2Proof.Machine.execDeratenRises s
  | .holdExpiry => Sys2Proof.Machine.execHoldExpiry s
  | .faultInputActive n => Sys2Proof.Machine.execFaultInputActive n s
  | .faultInputInactive n => Sys2Proof.Machine.execFaultInputInactive n s
  | .resetnFalls => Sys2Proof.Machine.execResetnFalls s
  | .resetnRises => Sys2Proof.Machine.execResetnRises s
  | .supplyValid => Sys2Proof.Machine.execSupplyValid s
  | .supplyFailure => Sys2Proof.Machine.execSupplyFailure s
  | .startupEnd => Sys2Proof.Machine.execStartupEnd s
  | .frameStart => Sys2Proof.Machine.execFrameStart s
  | .stepFrameStart => Sys2Proof.Machine.execStepFrameStart s
  | .settledReport n => Sys2Proof.Machine.execSettledReport n s
  | .runTimerTenth k => Sys2Proof.Machine.execRunTimerTenth k s
  | .runLimitExpiry k => Sys2Proof.Machine.execRunLimitExpiry k s
  | .windowExpiry c => Sys2Proof.Machine.execWindowExpiry c s
  | .frameCountAdvance => Sys2Proof.Machine.execFrameCountAdvance s

end Sys2Proof.Machine
end

