-- ==== Sys2Proof/Safety.lean ====
section
/-! DEFINITION. What a sound state of the part is: the relations between its fields that the spec lays down, each in the
terms the statements use. All are decidable on a given state. -/

namespace Sys2Proof.Machine

/-! ### The answer to a request -/

/-- The state that answers a request: `b` is what the owning block returned, and the exchange port takes it when it
handed over this very request (R158, R159). -/
def State.answered (s : State) (r : Request) (snd : Sender) (payload : List Byte) (b : BlockReply) : State :=
  { s with returned := some b, port := s.port.takeReturn r snd payload b }

/-- The request a command carries out, with its sender and payload; none for an event. -/
def requestOf (i : Instr) : Option (Request × Sender × List Byte) :=
  match i with
  | .claim x p => some (.claim, x, p) | .query x p => some (.query, x, p) | .reshape x p => some (.reshape, x, p)
  | .release x p => some (.release, x, p) | .retry x p => some (.retry, x, p) | .scan x p => some (.scan, x, p)
  | .join x p => some (.join, x, p) | .leave x p => some (.leave, x, p) | .ping x p => some (.ping, x, p)
  | .setClient x p => some (.setClient, x, p) | .setChannel x p => some (.setChannel, x, p)
  | .setTiming x p => some (.setTiming, x, p) | .clearFault x p => some (.clearFault, x, p)
  | .setLimits x p => some (.setLimits, x, p) | .setClasses x p => some (.setClasses, x, p)
  | .commit x p => some (.commit, x, p) | .halt x p => some (.halt, x, p) | .restart x p => some (.restart, x, p)
  | .restartReset | .startOwnWrite | .writeByte _ | .writePhaseEnd _ | .replyInHand | .bareRead | .readByteAck _
  | .readPhaseEnd _ | .busError | .exchangeTimerExpiry | .deratenFalls | .deratenRises | .holdExpiry
  | .faultInputActive _ | .faultInputInactive _ | .resetnFalls | .resetnRises | .supplyValid | .supplyFailure
  | .startupEnd | .frameStart | .stepFrameStart | .settledReport _ | .runTimerTenth _ | .runLimitExpiry _
  | .windowExpiry _ | .frameCountAdvance => none

/-- The events that end, begin or wait for a reset: the RESETn pin, the supply, and the end of start-up (R176, R177). -/
def isResetEvent (i : Instr) : Bool :=
  i == .resetnFalls || i == .resetnRises || i == .supplyValid || i == .supplyFailure || i == .startupEnd

/-! ### The end of a reset -/

/-- The blocks at the values of R175, with the derate state read from DERATEn, the address read from the straps and the
cause given; the pins and the waiting commands stay. -/
def State.afterReset (s : State) (cause : ResetCause) : State :=
  { plant := Plant.reset, lim := LimitUnit.reset s.pins.derateLow
    port := Port.reset (0x58 + 4 * s.pins.strapA2.toNat + 2 * s.pins.strapA1.toNat + s.pins.strapA0.toNat)
    ctl := { part := .setup, cause := cause, restartPending := false, powerOnPending := false }
    pins := s.pins, returned := none, pending := s.pending }

/-! ### The allotment table (chapters 1 to 3) -/

/-- A FREE record with the generation, owner and command identity of `a` (R2, R69). -/
def Allotment.asFree (a : Allotment) : Allotment :=
  { Allotment.reset with generation := a.generation, owner := a.owner, commandId := a.commandId }

/-- Every FREE record holds the FREE contents and nothing else (R2). -/
def Plant.freeRecordsClear (p : Plant) : Prop := ∀ i, (p.allot i).state = .free → p.allot i = (p.allot i).asFree

/-- The sum of the charges of all 32 allotments. -/
def Plant.chargeSum (p : Plant) : Nat := (allSlots.map fun i => (p.allot i).charge).sum

/-- FREE records are clear and the committed charge is the sum of the charges (R2, R35). -/
def Plant.accountsAgree (p : Plant) : Prop := p.freeRecordsClear ∧ p.eng.committed = p.chargeSum

/-- A handle is current: its slot is not FREE and has the handle's generation (R4). -/
def Plant.current (p : Plant) (h : Handle) : Prop :=
  (p.allot h.slot).state ≠ .free ∧ (p.allot h.slot).generation = h.generation

/-- Allotment `i` names channel `n` in its terms. -/
def Plant.names (p : Plant) (i : SlotIx) (n : ChannelIx) : Prop := n ∈ (p.allot i).terms.map Term.channel

/-- Every channel named by a non-FREE allotment is bound to it, and a bound channel is bound to the handle of a non-FREE
allotment that names it (R10). -/
def Plant.bindingExact (p : Plant) : Prop :=
  (∀ i, (p.allot i).state ≠ .free → ∀ n, p.names i n → p.eng.binding[n] = some (p.handleOf i))
  ∧ ∀ n : ChannelIx, ∀ h ∈ p.eng.binding[n], p.current h ∧ p.names h.slot n

/-- The states in which an allotment stands in the wait queue (R45). -/
def AllotState.queued (st : AllotState) : Bool := st == .waiting || st == .reduced

/-- The states in which an allotment stands in the grant list (R49). -/
def AllotState.granted (st : AllotState) : Bool :=
  st == .rising || st == .running || st == .reduced || st.outcome?.isSome

/-- A list of handles holds each allotment in the states `f` exactly once and nothing else. -/
def Plant.lists (p : Plant) (l : List Handle) (f : AllotState → Bool) : Prop :=
  l.Nodup ∧ (∀ h ∈ l, h = p.handleOf h.slot) ∧ ∀ i, p.handleOf i ∈ l ↔ f (p.allot i).state = true

/-- The stage names the STAGED allotment, of which there is at most one (R62). -/
def Plant.stageExact (p : Plant) : Prop :=
  ∀ i, (p.allot i).state = .staged ↔ p.eng.stage = some (p.handleOf i)

/-- A handle in the stage is that of its slot's present allotment (R62). -/
def Plant.stageCurrent (p : Plant) : Prop := ∀ h ∈ p.eng.stage, h = p.handleOf h.slot

/-- The wait queue, the grant list and the stage hold the allotments whose states put them there (R45, R49, R62). -/
def Plant.listsExact (p : Plant) : Prop :=
  p.lists p.eng.queue AllotState.queued ∧ p.lists p.eng.grants AllotState.granted
  ∧ p.stageExact ∧ p.stageCurrent

/-- The wait queue stands from highest rank to lowest under the levels in force (R45). -/
def Plant.queueOrdered (p : Plant) : Prop :=
  p.eng.queue.Pairwise fun a b => ranksAbove p.eng.levels (p.classOf b) (p.classOf a) = false

/-- The charge of an allotment in a state that fixes it (R33). -/
def Allotment.chargeFits (a : Allotment) : Prop :=
  (a.state = .free ∨ a.state = .waiting ∨ a.state = .staged ∨ a.state = .tripped → a.charge = 0)
  ∧ (a.state = .running → a.charge = a.requestCost) ∧ (a.state = .reduced → a.charge = a.floorCost)

/-- Every settled or idle allotment holds the charge of its state, and the stage names a STAGED allotment (R33, R62). -/
def Plant.chargeLaw (p : Plant) : Prop :=
  (∀ h ∈ p.eng.stage, (p.allot h.slot).state = .staged) ∧ ∀ i, (p.allot i).chargeFits

/-- The sum of the request costs of a client's non-FREE allotments. -/
def Plant.claimedBy (p : Plant) (c : ClientIx) : Nat := ((p.ownedBy c).map fun i => (p.allot i).requestCost).sum

/-- Every claimed total is the sum of the request costs of the client's non-FREE allotments (R136), and FREE records are
clear (R2). -/
def Plant.claimedLaw (p : Plant) : Prop :=
  p.freeRecordsClear ∧ ∀ c, (p.client c).claimed = p.claimedBy c

/-! ### Channels (the table of 05 section 5.6) -/

/-- A channel's duties, phase slot, command identity and due report agree with its state (R110, R112, section 5.6). -/
def Channel.shaped (c : Channel) : Prop :=
  (c.reportDue = true → c.applied = c.target)
  ∧ (c.state = .off → c.applied = 0 ∧ c.target = 0 ∧ c.phase = none)
  ∧ (c.state = .rise → c.applied ≤ c.target ∧ c.phase.isSome = true)
  ∧ (c.state = .on → c.applied = c.target ∧ 0 < c.applied ∧ c.phase.isSome = true)
  ∧ (c.state = .fall → c.target ≤ c.applied ∧ c.phase.isSome = true)
  ∧ (c.state = .faulted → c.applied = 0 ∧ c.target = 0 ∧ c.phase = none ∧ c.command = none ∧ c.reportDue = false)

/-- The engine and the output stage at rest: every allotment FREE, nothing committed, queued, granted or staged, every
channel OFF or FAULTED (R166). -/
def Plant.quiet (p : Plant) : Prop :=
  (∀ i, (p.allot i).state = .free) ∧ p.eng.committed = 0 ∧ p.eng.queue = [] ∧ p.eng.grants = [] ∧ p.eng.stage = none
  ∧ ∀ n, (p.chan n).state = .off ∨ (p.chan n).state = .faulted

/-- Channels agree with their states, and in SETUP the part is quiet with an effective ceiling of 0 (R166). -/
def State.outputsSound (s : State) : Prop :=
  (∀ n, (s.plant.chan n).shaped) ∧ (s.ctl.part = .setup → s.plant.quiet ∧ s.lim.effective = 0)

/-- The frame counter is 0 to 255 and the ramp counter 1 up to the frames per interval (R99, R103). -/
def OutputStage.countersInRange (o : OutputStage) : Prop :=
  o.frameCount < Config.frameCounts ∧ 1 ≤ o.rampCounter ∧ o.rampCounter ≤ o.timing.frames

/-! ### Limit unit (chapter 2) -/

/-- The effective ceiling is the value R26 gives, and a hold timer is present in HOLDING only (02 section 2.1). -/
def State.ceilingSound (s : State) : Prop :=
  s.lim.effective = s.lim.effectiveFor s.ctl.part ∧ (s.lim.holdTimer.isSome = true ↔ s.lim.derate = .holding)

/-- Out of reset the derate state follows DERATEn, and a part without a valid supply has its power-on reset to end
(R25, R27, R28, R177). -/
def State.derateSound (s : State) : Prop :=
  (s.pins.supplyOk = false → s.ctl.powerOnPending = true)
  ∧ (s.inReset = false → (s.lim.derate = .derated ↔ s.pins.derateLow = true))

/-! ### Client table (chapter 7) -/

/-- A window timer runs exactly in ACTIVE with a window above 0 (R137), an id is absent exactly in UNSET (7.1), and the
retired count stays within 255 (R140). -/
def Client.shaped (x : Client) : Prop :=
  (x.timer.isSome = true ↔ x.state = .active ∧ 0 < x.window)
  ∧ (x.id.isSome = true ↔ x.state ≠ .unset) ∧ x.retired ≤ Config.maxRetired

/-! ### Exchange port (chapter 8) -/

/-- The frame buffer holds at most 24 bytes; the exchange timer is present outside IDLE; a request is with its owning
block, or its reply waits to come into hand, exactly while handling is in progress; an address byte is held for a write in
RX and for a bare read in SUMMARY only (log entry 24); EXEC, an SCL hold, and a frame being sent each have what they stand
for (08 section 8.2). -/
def Port.shaped (t : Port) : Prop :=
  t.buffer.length ≤ Config.frameBufferBytes
  ∧ (t.timer.isSome = true ↔ t.state ≠ .idle)
  ∧ (t.handling = true ↔ t.handed.isSome = true ∨ t.built.isSome = true)
  ∧ ¬(t.handed.isSome = true ∧ t.built.isSome = true)
  ∧ (t.state = .exec → t.handling = true)
  ∧ (t.held.isSome = true → t.handling = true)
  ∧ (t.held = some .write → t.state = .rx)
  ∧ (t.held = some .read → t.state = .summary)
  ∧ (t.state = .rx → t.held = none → t.handling = false)
  ∧ (t.state = .tx → t.inHand.isSome = true)
  ∧ (t.state = .summary → t.held = none → t.inHand.isSome = true)

/-! ### Conditions on a request -/

/-- A CLAIM from a client passes every test of R17, and order 9 finds slot `i`. -/
def State.claimPasses (s : State) (c : ClientIx) (p : List Byte) (i : SlotIx) : Prop :=
  s.inReset = false ∧ s.ctl.part = .run ∧ (s.plant.client c).state = .active
  ∧ claimLengthOk p = true ∧ claimFieldsOk p = true ∧ s.plant.claimChannelTest (claimTerms p) = none
  ∧ s.plant.requestCostOf (claimTerms p) ≤ s.lim.configured
  ∧ (s.plant.client c).claimed + s.plant.requestCostOf (claimTerms p) ≤ (s.plant.client c).quota
  ∧ s.plant.lowestFree = some i

/-- A client that is ACTIVE asks about the non-FREE allotment of slot `i`, which it owns, with the part out of reset. -/
def State.ownerAsks (s : State) (c : ClientIx) (i : SlotIx) : Prop :=
  s.inReset = false ∧ (s.plant.client c).state = .active ∧ (s.plant.allot i).state ≠ .free
  ∧ (s.plant.allot i).owner = some c

/-- A RESHAPE of slot `i` from its owner to the duties `ds` passes orders 1 to 10 of R80. -/
def State.reshapePasses (s : State) (c : ClientIx) (i : SlotIx) (ds : List Byte) : Prop :=
  s.ownerAsks c i ∧ s.ctl.part = .run ∧ ((s.plant.allot i).state = .running ∨ (s.plant.allot i).state = .waiting)
  ∧ ds.length = (s.plant.allot i).terms.length ∧ 1 ≤ ds.length ∧ ds.length ≤ 4 ∧ (∀ d ∈ ds, d ≠ 0)
  ∧ (s.plant.client c).claimed + (s.plant.reshaped (s.plant.allot i) (ds.map BitVec.toNat)).requestCost
      - (s.plant.allot i).requestCost ≤ (s.plant.client c).quota
  ∧ (s.plant.reshaped (s.plant.allot i) (ds.map BitVec.toNat)).requestCost ≤ s.lim.configured

/-- No allotment but `i` matters to the stage: it is occupied and some other allotment is FALLING, so it goes on waiting
(R63, R64). -/
def Plant.stageWaits (p : Plant) (i : SlotIx) : Prop :=
  p.eng.stage.isSome = true ∧ ∃ j, j ≠ i ∧ (p.allot j).state.outcome?.isSome = true

/-! ### Ranks, places in the queue, victims and cuts (R37, R41, R46, R47, R51) -/

/-- Class `a` ranks above class `b`: a greater level, or an equal level and a smaller class number (R41). -/
def Plant.outranks (p : Plant) (a b : ClassIx) : Prop :=
  p.eng.levels[b] < p.eng.levels[a] ∨ (p.eng.levels[a] = p.eng.levels[b] ∧ a < b)

/-- `q'` is the queue `q` with `h` at the back of the rank of class `c`: behind every entry of its class or of higher
rank, ahead of every entry of lower rank (R46). -/
def Plant.queuedAtBack (p : Plant) (c : ClassIx) (h : Handle) (q q' : List Handle) : Prop :=
  ∃ pre post, q = pre ++ post ∧ q' = pre ++ h :: post
    ∧ (∀ e ∈ pre, ¬p.outranks c (p.classOf e)) ∧ ∀ e ∈ post, p.outranks c (p.classOf e)

/-- `q'` is the queue `q` with `h` at the front of the rank of class `c`: behind every entry of higher rank, ahead of
every entry of its class or of lower rank (R47). -/
def Plant.queuedAtFront (p : Plant) (c : ClassIx) (h : Handle) (q q' : List Handle) : Prop :=
  ∃ pre post, q = pre ++ post ∧ q' = pre ++ h :: post
    ∧ (∀ e ∈ pre, p.outranks (p.classOf e) c) ∧ ∀ e ∈ post, ¬p.outranks (p.classOf e) c

/-- `h` was admitted after `g`: it stands later in the grant list (R49). -/
def Plant.admittedAfter (p : Plant) (h g : Handle) : Prop :=
  [g, h].Sublist p.eng.grants

/-- `h` comes before `g` in victim order: of lower rank, or of the same class and admitted after it (R51). -/
def Plant.lostBefore (p : Plant) (h g : Handle) : Prop :=
  p.outranks (p.classOf g) (p.classOf h) ∨ (p.classOf h = p.classOf g ∧ p.admittedAfter h g)

/-- `h` comes before `g` in a hard cut: FALLING before every other state, the later admitted of two FALLING ones first
whatever their ranks, and two others in victim order (R37). -/
def Plant.cutBefore (p : Plant) (h g : Handle) : Prop :=
  match (p.allot h.slot).state.outcome?.isSome, (p.allot g.slot).state.outcome?.isSome with
  | true, true => p.admittedAfter h g
  | true, false => True
  | false, true => False
  | false, false => p.lostBefore h g

/-- `vs` are the candidates taken in the order `before`, up to the first after which the sum of their gains is at least
`need` (R37, R59, R60). -/
def takenInOrder (before : Handle → Handle → Prop) (candidate : Handle → Prop) (gain : Handle → Nat) (need : Nat)
    (vs : List Handle) : Prop :=
  (∀ h ∈ vs, candidate h) ∧ vs.Pairwise before ∧ (∀ h ∈ vs, ∀ g, candidate g → g ∉ vs → before h g)
  ∧ need ≤ (vs.map gain).sum ∧ ∀ k < vs.length, ((vs.take k).map gain).sum < need

/-! ### Costs, targets and duties (R7 to R12, R33, R34) -/

/-- The state is one in transition: RISING or FALLING (R69). -/
def AllotState.moving (st : AllotState) : Bool := st == .rising || st.outcome?.isSome

/-- The target a term stands at, by the state of its allotment (R12). -/
def Allotment.targetOf (a : Allotment) (t : Term) : Nat :=
  match a.state with
  | .rising | .running | .falling .running => t.requested
  | .reduced | .falling .reduced => a.floorDutyOf t
  | .free | .waiting | .staged | .tripped | .falling .free | .falling .waiting => 0

/-- Distinct channels (R1), duties of at least 1, a floor of 1 to 15 sixteenths, present where the allotment stands at
its floor or falls to it (R9), costs as the ratings in force give them (R8, R9), and targets by the state (R12). -/
def Plant.recordSound (p : Plant) (i : SlotIx) : Prop :=
  let a := p.allot i
  (a.terms.map Term.channel).Nodup
  ∧ (∀ t ∈ a.terms, 1 ≤ t.requested ∧ t.target = a.targetOf t)
  ∧ a.requestCost = p.requestCostOf a.terms
  ∧ (∀ f ∈ a.floor, 1 ≤ f.fraction ∧ f.fraction ≤ 15 ∧ f.cost = p.floorCostOf a.terms f.fraction)
  ∧ (a.state = .reduced ∨ a.state = .falling .reduced → a.floor.isSome = true)

/-- The channels of slot `i` have the targets of its terms (R105), and only those of a TRIPPED allotment may be FAULTED
(R116). Each stands at its target, but for one that a transition has yet to settle (R33, R69); in transition the charge
covers every term at the greater of its applied duty and its target (R34). The applied duties never cost more than the
charge (R33). -/
def Plant.dutiesSound (p : Plant) (i : SlotIx) : Prop :=
  let a := p.allot i
  (∀ t ∈ a.terms, let c := p.chan t.channel
    c.target = t.target ∧ (c.state = .faulted → a.state = .tripped)
    ∧ (c.applied = t.target ∨ (a.state.moving = true ∧ t.channel ∈ a.unsettled)))
  ∧ (a.state.moving = true → (a.terms.map fun t =>
      costAt (p.chan t.channel).rating (max (p.chan t.channel).applied t.target)).sum ≤ a.charge)
  ∧ (a.terms.map fun t => costAt (p.chan t.channel).rating (p.chan t.channel).applied).sum ≤ a.charge

/-- An unbound channel stands at 0 with target 0 (R10, R11). -/
def Plant.unboundAtRest (p : Plant) : Prop :=
  ∀ n : ChannelIx, p.eng.binding[n] = none → (p.chan n).applied = 0 ∧ (p.chan n).target = 0

/-- A settled report that the engine would take speaks of a channel that stands at its target (R72, R107). -/
def Plant.reportsHonest (p : Plant) : Prop :=
  ∀ r ∈ p.out.reports, ∀ i, p.eng.binding[r.channel] = some (p.handleOf i) → (p.allot i).state.moving = true →
    r.channel ∈ (p.allot i).unsettled → r.command = some (p.allot i).commandId →
    (p.chan r.channel).applied = (p.chan r.channel).target

/-- The budget is kept: the committed charge is the sum of the charges and within the effective ceiling (R35), every
charge covers the duties it was set for (R33, R34), the reports in flight are honest (R72, R107), and the records, the
lists, the channels and the limit unit agree as the other relations of this file say. -/
def State.budgetSound (s : State) : Prop :=
  s.plant.eng.committed ≤ s.lim.effective ∧ s.plant.accountsAgree
  ∧ (∀ i, s.plant.recordSound i ∧ s.plant.dutiesSound i) ∧ s.plant.unboundAtRest
  ∧ s.plant.bindingExact ∧ s.plant.listsExact ∧ s.plant.queueOrdered ∧ s.plant.chargeLaw
  ∧ s.outputsSound ∧ s.ceilingSound ∧ s.derateSound ∧ s.plant.reportsHonest

/-! ### Client releases (R94) -/

/-- What a client release of client `c` makes of the record `a` of one of its allotments: one that holds no output is
freed, one in FALLING/FREE stays, and any other falls to FREE from the duties applied now, at the charge of those duties
in `p`, its flag set by a lapse only. -/
def Plant.releasedRecord (p : Plant) (lapse : Bool) (a : Allotment) : Allotment :=
  match a.state with
  | .waiting | .staged | .tripped => { a.asFree with generation := a.generation + 1 }
  | .free | .falling .free => a
  | .rising | .running | .reduced | .falling .running | .falling .reduced | .falling .waiting =>
    { a with
      terms := a.terms.map fun t => { t with target := 0 }, state := .falling .free
      charge := (a.terms.map fun t => costAt (p.chan t.channel).rating (p.chan t.channel).applied).sum
      changed := a.changed || lapse, commandId := a.commandId + 1, unsettled := a.terms.map Term.channel }

/-- The states in which an allotment holds a slot and no output (R87). -/
def AllotState.idle (st : AllotState) : Bool := st == .waiting || st == .staged || st == .tripped

/-- `q` is `p` after a client release of client `c`, before its pass (R94): the client's allotments released in slot order
and no other touched; the freed ones' channels unbound and their costs off the claimed total; a lapse retires each one not
already FALLING/FREE, and a LEAVE or JOIN none (R16, R140). -/
def Plant.clientReleased (p : Plant) (c : ClientIx) (lapse : Bool) (q : Plant) : Prop :=
  let own := (List.finRange 32).filter fun i => (p.allot i).state ≠ .free ∧ (p.allot i).owner = some c
  let freed := own.filter fun i => (p.allot i).state.idle
  let changed := own.filter fun i => (p.allot i).state ≠ .falling .free
  let falling := changed.filter fun i => (p.allot i).state.idle = false
  (∀ i, q.allot i = if i ∈ own then p.releasedRecord lapse (p.allot i) else p.allot i)
  ∧ (∀ n : ChannelIx, q.eng.binding[n] =
      if ∃ i ∈ freed, n ∈ (p.allot i).terms.map Term.channel then none else p.eng.binding[n])
  ∧ q.eng.queue = (p.eng.queue.filter fun h => h.slot ∉ own.filter fun i => (p.allot i).state.queued)
  ∧ q.eng.grants = p.eng.grants ∧ q.eng.levels = p.eng.levels ∧ q.eng.committed = q.chargeSum
  ∧ q.eng.stage = (if ∃ i ∈ own, (p.allot i).state = .staged then none else p.eng.stage)
  ∧ q.out = falling.foldl (fun o i => o.command (p.allot i).terms (fun _ => 0) ((p.allot i).commandId + 1)) p.out
  ∧ q.clients = p.clients.set c { p.client c with
      claimed := (p.client c).claimed - (freed.map fun i => (p.allot i).requestCost).sum
      retired := if lapse = true ∧ changed ≠ [] then min 255 ((p.client c).retired + changed.length)
        else (p.client c).retired }

/-! ### Clients that are not present (R130) -/

/-- A client in IDLE or LAPSED owns no allotment but ones FALLING with outcome FREE, and a slot in UNSET owns none
(R130). -/
def Plant.absentOnlyFall (p : Plant) : Prop :=
  ∀ i c, (p.allot i).state ≠ .free → (p.allot i).owner = some c →
    (p.client c).state = .active
    ∨ ((p.client c).state ≠ .unset ∧ (p.allot i).state = .falling .free)

end Sys2Proof.Machine
end

