-- ==== Sys2Proof/Certificates/Slice0/Obligations.lean ====
section
/-! DEFINITION. The statements for the provers. Each says which rule of spec/ it formalises; OBLIGATIONS.json lists them. -/

open Sys2Proof Sys2Proof.Machine

/-! ### The step -/

/-- A step takes the command at the front of the queue and carries it out with the queue's rest; on an empty queue the
part stays as it is, which is the model's choice (log entry 1). -/
def Obligations.StepRunsTheFrontCommand : Prop :=
  (∀ (c : Instr) (rest : List Instr) (s : State),
    step { s with pending := c :: rest } = exec c { s with pending := rest })
  ∧ ∀ s : State, s.pending = [] → step s = .next s

/-- Every command in every state answers a next state, and leaves the waiting commands alone: nothing faults and nothing
is refused (every request is answered with a status, R158, and every other event has its effect or none). -/
def Obligations.EveryCommandAnswersNext : Prop :=
  ∀ (c : Instr) (s : State), ∃ t, exec c s = .next t ∧ t.pending = s.pending

/-- While a power-on or RESETn reset is asserted no event but those of the reset itself does anything but write its own pin
level: DERATEn at its two events, one fault input at its two, and every other command leaves the state as it is. R174 and
R25 say so of DERATEn, the fault inputs, the straps and the port; that every other event too has no effect is the model's
reading (log entry 26, DEDUCED). -/
def Obligations.PartHeldInResetTakesNoEvent : Prop :=
  ∀ (c : Instr) (s : State), s.inReset = true → isResetEvent c = false →
    exec c s = .next (match c with
      | .deratenFalls => { s with pins := { s.pins with derateLow := true } }
      | .deratenRises => { s with pins := { s.pins with derateLow := false } }
      | .faultInputActive n => { s with pins := { s.pins with faultLow := s.pins.faultLow.set n true } }
      | .faultInputInactive n => { s with pins := { s.pins with faultLow := s.pins.faultLow.set n false } }
      | _ => s)

/-! ### Invariants: each is kept by every step from every state that has it -/

/-- FREE records stay clear and the committed charge stays the sum of the charges (R2, R35). -/
def Obligations.CommittedStaysTheSumOfCharges : Prop :=
  ∀ s t : State, s.plant.accountsAgree → step s = .next t → t.plant.accountsAgree

/-- The binding map stays exact (R10), with FREE records clear (R2). -/
def Obligations.BindingMapStaysExact : Prop :=
  ∀ s t : State, s.plant.freeRecordsClear ∧ s.plant.bindingExact → step s = .next t →
    t.plant.freeRecordsClear ∧ t.plant.bindingExact

/-- The wait queue, the grant list and the stage go on holding exactly the allotments whose states put them there, and
the queue stays ordered from highest rank to lowest (R45, R49, R62). -/
def Obligations.QueueGrantsAndStageStayExact : Prop :=
  ∀ s t : State, s.plant.listsExact ∧ s.plant.queueOrdered → step s = .next t →
    t.plant.listsExact ∧ t.plant.queueOrdered

/-- Every allotment in a settled or idle state goes on holding the charge of that state (R33). -/
def Obligations.SettledChargesStayAsTheirStatesSay : Prop :=
  ∀ s t : State, s.plant.chargeLaw → step s = .next t → t.plant.chargeLaw

/-- Every claimed total stays the sum of the request costs of the client's non-FREE allotments (R136). In SETUP every
allotment is FREE, which `outputsSound` says and `SetupStaysQuiet` keeps. -/
def Obligations.ClaimedTotalsStaySums : Prop :=
  ∀ s t : State, s.outputsSound → s.plant.claimedLaw → step s = .next t → t.plant.claimedLaw

/-- While the part is in SETUP every allotment is FREE, the committed charge and the effective ceiling are 0 and every
channel is OFF or FAULTED (R166); and every channel's record agrees with its state (the table of 5.6, R110, R112). -/
def Obligations.SetupStaysQuiet : Prop :=
  ∀ s t : State, s.outputsSound → step s = .next t → t.outputsSound

/-- The effective ceiling stays the value R26 gives, the hold timer stays present in HOLDING only, and out of reset the
derate state follows DERATEn (R25 to R30). -/
def Obligations.LimitUnitStaysSound : Prop :=
  ∀ s t : State, s.ceilingSound ∧ s.derateSound → step s = .next t → t.ceilingSound ∧ t.derateSound

/-- A window timer stays present exactly in ACTIVE with a window above 0, an id exactly outside UNSET, and the retired
count within 255 (7.1, R137, R140). -/
def Obligations.ClientRecordsStayShaped : Prop :=
  ∀ s t : State, (∀ c, (s.plant.client c).shaped) → step s = .next t → ∀ c, (t.plant.client c).shaped

/-- The port's state, buffer, timer and handling stay as 8.2 lays down. -/
def Obligations.ExchangePortStaysShaped : Prop :=
  ∀ s t : State, s.port.shaped → step s = .next t → t.port.shaped

/-- The frame counter stays within 0 to 255 and the ramp counter within 1 to the frames per interval (R99, R103). -/
def Obligations.FrameAndRampCountersStayInRange : Prop :=
  ∀ s t : State, s.plant.out.countersInRange → step s = .next t → t.plant.out.countersInRange

/-- The committed charge stays within the effective ceiling, and the applied duties of every allotment within its charge
(R33, R34, R35): every step keeps `budgetSound`, which says so, together with the costs and targets of the records (R8,
R9, R12), the relations the other invariants state, and that a report the engine would take speaks of a channel at its
target (R72, R107). It holds right after reset. That a report which a command, a cut or a fault has overtaken no longer
waits is how the model discards it (log entry 13, DEDUCED). -/
def Obligations.CommittedStaysWithinTheCeiling : Prop :=
  (∀ s t : State, s.budgetSound → step s = .next t → t.budgetSound) ∧ State.reset.budgetSound

/-- A client in IDLE or LAPSED goes on owning nothing but allotments in FALLING with outcome FREE, and a client slot in
UNSET nothing (R130): every step keeps it, with the lists exact (R45, R49, R62) and SETUP quiet (R166). It holds right
after reset. -/
def Obligations.AbsentClientsOwnOnlyFallsToFree : Prop :=
  (∀ s t : State, s.plant.absentOnlyFall → s.plant.listsExact → s.plant.queueOrdered → s.outputsSound →
    step s = .next t → t.plant.absentOnlyFall)
  ∧ State.reset.plant.absentOnlyFall

/-- All of the invariants hold right after reset. -/
def Obligations.InvariantsHoldAtReset : Prop :=
  State.reset.plant.accountsAgree ∧ State.reset.plant.bindingExact ∧ State.reset.plant.listsExact
  ∧ State.reset.plant.queueOrdered ∧ State.reset.plant.chargeLaw ∧ State.reset.plant.claimedLaw
  ∧ State.reset.outputsSound ∧ State.reset.ceilingSound ∧ State.reset.derateSound
  ∧ (∀ c, (State.reset.plant.client c).shaped) ∧ State.reset.port.shaped ∧ State.reset.plant.out.countersInRange

/-! ### Resets (chapter 9) -/

/-- The three resets end with every block at its reset values and their own cause: RESETn returning high outside
power-on, the end of start-up, and the reset an accepted RESTART ordered (R173, R175 to R177). That one is carried out
where the exchange of the RESTART frame ends: with the read phase that sends its reply, however that ends, or, with no
such phase, when the reply comes into hand (R165). Where a repeated START with the own address ends the read phase, that
the reset is all that happens, and the address byte behind it begins no phase, is the model's choice (log entry 28, DESIGN
CHOICE). An expiry of the timer in EXEC only takes the port to IDLE, the model's
reading (log entry 7, DEDUCED). So is RESTART_RESET carrying the reset out when no exchange of a RESTART frame is open at
the port (log entry 6, DEDUCED). -/
def Obligations.EveryResetEndsWithTheResetValues : Prop :=
  ∀ s : State,
    (s.pins.resetnHigh = false → s.pins.supplyOk = true → s.ctl.powerOnPending = false →
      exec .resetnRises s = .next (State.afterReset { s with pins := { s.pins with resetnHigh := true } } .resetPin))
    ∧ (s.pins.supplyOk = true → s.pins.resetnHigh = true → s.ctl.powerOnPending = true →
      exec .startupEnd s = .next (s.afterReset .powerOn))
    ∧ (s.inReset = false → s.ctl.restartPending = true → s.port.restartReply = false →
      exec .restartReset s = .next (s.afterReset .restart))
    ∧ (s.inReset = false → s.ctl.restartPending = true → s.port.restartReply = true →
      (s.port.state = .tx → s.port.held = none →
        (∀ e, exec (.readPhaseEnd e) s = .next (s.afterReset .restart))
        ∧ exec .bareRead s = .next (s.afterReset .restart) ∧ exec .busError s = .next (s.afterReset .restart))
      ∧ (s.port.state = .tx → s.port.timer.isSome = true →
        exec .exchangeTimerExpiry s = .next (s.afterReset .restart))
      ∧ (s.port.state ≠ .exec → s.port.built.isSome = true → exec .replyInHand s = .next (s.afterReset .restart))
      ∧ (s.port.state = .exec → s.port.timer.isSome = true → exec .exchangeTimerExpiry s = .next { s with
          port := { s.port with
            state := .idle, timer := none, inHand := none, position := 0, stopped := false, held := none } }))

/-- The reset values of R175, field by field, as the chapters that own them state them; the control unit's are the part
state SETUP and restart pending no, whatever the cause. -/
def Obligations.ResetValuesAreThoseOfTheChapters : Prop :=
  (State.reset.ctl.part = .setup ∧ State.reset.ctl.restartPending = false
    ∧ ∀ (s : State) (cause : ResetCause), let t := s.afterReset cause
      t.ctl.part = .setup ∧ t.ctl.restartPending = false ∧ t.ctl.cause = cause ∧ t.plant = Plant.reset)
  ∧ (∀ i, let a := Plant.reset.allot i
    a.state = .free ∧ a.generation = 0 ∧ a.owner = none ∧ a.terms = [] ∧ a.floor = none ∧ a.run = none ∧ a.tag = none
    ∧ a.charge = 0 ∧ a.changed = false ∧ a.commandId = 0 ∧ a.unsettled = [])
  ∧ (∀ n : ChannelIx, Plant.reset.eng.binding[n] = none)
  ∧ Plant.reset.eng.queue = [] ∧ Plant.reset.eng.grants = [] ∧ Plant.reset.eng.stage = none
  ∧ Plant.reset.eng.committed = 0 ∧ (∀ c : ClassIx, Plant.reset.eng.levels[c] = 0)
  ∧ (∀ n, let c := Plant.reset.chan n
    c.enabled = false ∧ c.rating = 0 ∧ c.step = 8 ∧ c.state = .off ∧ c.applied = 0 ∧ c.target = 0 ∧ c.command = none
    ∧ c.reportDue = false ∧ c.phase = none)
  ∧ (∀ p, Plant.reset.out.load p = 0)
  ∧ Plant.reset.out.timing = ⟨.khz4, .ms1⟩ ∧ Plant.reset.out.frameCount = 0 ∧ Plant.reset.out.rampCounter = 4
  ∧ (∀ c, let x := Plant.reset.client c
    x.state = .unset ∧ x.id = none ∧ x.quota = 0 ∧ x.window = 0 ∧ x.alert = false ∧ x.claimed = 0 ∧ x.retired = 0
    ∧ x.timer = none)
  ∧ Plant.reset.alertLow = false
  ∧ (∀ low, let l := LimitUnit.reset low
    l.configured = 0 ∧ l.derated = 0 ∧ l.hold = 0 ∧ l.holdTimer = none ∧ l.effective = 0
    ∧ l.derate = if low then .derated else .normal)
  ∧ (∀ k, let t := Port.reset k
    t.state = .idle ∧ t.buffer = [] ∧ t.overLength = false ∧ t.inHand = none ∧ t.timer = none ∧ t.handling = false
    ∧ t.supervisorSlot = none ∧ (∀ c : ClientIx, t.clientSlots[c] = none) ∧ t.address = k)

/-- A fall of RESETn and a supply failure assert a reset: every gate goes low, ALERTn is released, the port is IDLE with
no address byte to acknowledge, a pending RESTART ends, and the part is held (R165, R174, R176, R177). That the port stands
at its reset values from the assertion on, with its reply slots empty and its old bus address, also after a supply
failure, is the model's choice (log entry 9, DESIGN CHOICE). The supply becoming valid lets start-up begin, and RESETn
returning high before start-up has ended lets it begin again: each changes the pin and nothing else, and the part stays in
reset (R177). -/
def Obligations.AssertedResetSilencesThePart : Prop :=
  ∀ s : State,
    (s.pins.resetnHigh = true → ∃ t, exec .resetnFalls s = .next t ∧ t.pins = { s.pins with resetnHigh := false }
      ∧ t.inReset = true ∧ (∀ n, t.gateHigh n = false) ∧ t.alertLow = false ∧ t.port = Port.reset s.port.address
      ∧ t.ctl.restartPending = false ∧ t.ctl.cause = s.ctl.cause ∧ t.pending = s.pending)
    ∧ (s.pins.supplyOk = true → ∃ t, exec .supplyFailure s = .next t ∧ t.pins = { s.pins with supplyOk := false }
      ∧ t.inReset = true ∧ t.ctl.powerOnPending = true ∧ (∀ n, t.gateHigh n = false) ∧ t.alertLow = false
      ∧ t.port = Port.reset s.port.address ∧ t.ctl.restartPending = false ∧ t.pending = s.pending)
    ∧ exec .supplyValid s = .next { s with pins := { s.pins with supplyOk := true } }
    ∧ (s.pins.resetnHigh = false → s.ctl.powerOnPending = true ∨ s.pins.supplyOk = false →
      ∃ t, exec .resetnRises s = .next t ∧ t = { s with pins := { s.pins with resetnHigh := true } } ∧ t.inReset = true)

/-! ### Requests in general (R158, R166, R167, R178) -/

/-- A request whose status is not OK changes nothing but the reply; a RETRY refused with CHANNEL_FAULT, which may clear
latches, is the one exception (R124, R178). -/
def Obligations.RefusedRequestChangesNothing : Prop :=
  ∀ (c : Instr) (r : Request) (snd : Sender) (p : List Byte) (s t : State) (b : BlockReply),
    requestOf c = some (r, snd, p) → s.inReset = false → exec c s = .next t → t.returned = some b →
    b.status ≠ .ok → (r = .retry → b.status ≠ .channelFault) → t = s.answered r snd p b

/-- Who may send what, and in which part state: a request reserved to the supervisor is refused to every client, CLAIM,
RESHAPE, JOIN and LEAVE to the supervisor; CLAIM, RESHAPE and RETRY, the supervisor's too, are refused in SETUP,
SET_CHANNEL and SET_TIMING in RUN (R166, R167). -/
def Obligations.SenderAndPartStateGateTheRequests : Prop :=
  ∀ (s : State) (c : ClientIx) (p : List Byte), s.inReset = false → (s.plant.client c).state ≠ .unset →
    (∀ r ∈ [(Request.setClient, Instr.setClient), (.setChannel, .setChannel), (.setTiming, .setTiming),
        (.clearFault, .clearFault), (.setLimits, .setLimits), (.setClasses, .setClasses), (.commit, .commit),
        (.halt, .halt), (.restart, .restart)],
      exec (r.2 (.client c) p) s = .next (s.answered r.1 (.client c) p (.bare .supervisorOnly)))
    ∧ (∀ r ∈ [(Request.claim, Instr.claim), (.reshape, .reshape), (.join, .join), (.leave, .leave)],
      exec (r.2 .supervisor p) s = .next (s.answered r.1 .supervisor p (.bare .clientOnly)))
    ∧ (s.ctl.part = .setup → ∀ r ∈ [(Request.claim, Instr.claim), (.reshape, .reshape), (.retry, .retry)],
      exec (r.2 (.client c) p) s = .next (s.answered r.1 (.client c) p (.bare .notRunning)))
    ∧ (s.ctl.part = .setup →
      exec (.retry .supervisor p) s = .next (s.answered .retry .supervisor p (.bare .notRunning)))
    ∧ (s.ctl.part = .run → ∀ r ∈ [(Request.setChannel, Instr.setChannel), (.setTiming, .setTiming),
        (.commit, .commit)],
      exec (r.2 .supervisor p) s = .next (s.answered r.1 .supervisor p (.bare .notSetup)))

/-! ### CLAIM and QUERY (chapter 1) -/

/-- A CLAIM that passes every test binds its channels, adds its cost to the owner's claimed total and writes the record of
R19 in the lowest FREE slot. With the stage occupied it waits at the back of its rank and no pass runs (R63). With stage
and queue empty it is granted where its cost is within available (R56), and waits where it exceeds the effective ceiling
(R55). With the stage empty and every queued entry of lower rank, a cost above available is staged on the falls in
progress, else on the reduction, else on the shedding of the candidates up to the first that suffices, in victim order;
where no source suffices it waits and nothing is lowered (R58 to R62). The reply names the handle and the state after the
event (R20). That the event which stages makes no test for the stage's resolution is log entry 11 (DEDUCED). -/
def Obligations.AcceptedClaimWaitsIsGrantedOrStaged : Prop :=
  ∀ (s : State) (c : ClientIx) (p : List Byte) (i : SlotIx), s.claimPasses c p i → s.plant.freeRecordsClear →
    let e := s.plant.eng
    let h := s.plant.handleOf i
    let cls := claimClass p
    let terms := claimTerms p
    let cost := s.plant.requestCostOf terms
    let record : Allotment :=
      { generation := (s.plant.allot i).generation, owner := some c, cls := cls, terms := terms
        floor := s.plant.floorPart terms (claimFloor p), requestCost := cost
        run := (claimRun p).map fun r => { limit := r, remaining := r, counted := 0 }
        tag := claimTag p, state := .waiting, charge := 0, changed := false
        commandId := (s.plant.allot i).commandId, unsettled := [] }
    ∃ t, exec (.claim (.client c) p) s = .next t
      ∧ (∀ n, t.plant.eng.binding[n] = if n ∈ terms.map Term.channel then some h else e.binding[n])
      ∧ t.plant.clients = s.plant.clients.set c
          { s.plant.client c with claimed := (s.plant.client c).claimed + cost }
      ∧ (let answers := fun state : Byte => t = State.answered { s with plant := t.plant } .claim (.client c) p
          (.okWith (h.bytes ++ [state]))
        let waits := fun queue : List Handle => answers 1 ∧ t.plant.out = s.plant.out
          ∧ t.plant.eng = { e with allots := e.allots.set i record, binding := t.plant.eng.binding, queue := queue }
        (e.stage.isSome = true → waits (placeBack t.plant cls h e.queue)
          ∧ (s.plant.listsExact → s.plant.queueOrdered → s.plant.queuedAtBack cls h e.queue t.plant.eng.queue))
        ∧ (e.stage = none → e.queue = [] → s.lim.effective < cost → waits [h])
        ∧ (e.stage = none → e.queue = [] → e.committed + cost ≤ s.lim.effective → answers 3
          ∧ t.plant.out = s.plant.out.command terms (·.requested) (record.commandId + 1)
          ∧ t.plant.eng = { e with
              allots := e.allots.set i { record with
                terms := terms.map fun x => { x with target := x.requested }, state := .rising
                charge := s.plant.transitionCharge terms (·.requested)
                commandId := record.commandId + 1, unsettled := terms.map Term.channel }
              binding := t.plant.eng.binding, grants := e.grants ++ [h]
              committed := e.committed + s.plant.transitionCharge terms (·.requested) })
        ∧ (s.budgetSound → e.stage = none → (∀ x ∈ e.queue, s.plant.outranks cls (s.plant.classOf x)) →
            cost ≤ s.lim.effective → s.lim.effective < e.committed + cost →
          let need := e.committed + cost - s.lim.effective
          let pending := (allSlots.map fun j => match (s.plant.allot j).state with
            | .falling .free | .falling .waiting => (s.plant.allot j).charge
            | .falling .reduced => (s.plant.allot j).charge - (s.plant.allot j).floorCost
            | .falling .running => (s.plant.allot j).charge - (s.plant.allot j).requestCost
            | .free | .waiting | .staged | .rising | .running | .reduced | .tripped => 0).sum
          let reducible := fun vs => takenInOrder s.plant.lostBefore (fun x => x ∈ e.grants
              ∧ (s.plant.allot x.slot).state = .running ∧ (s.plant.allot x.slot).floor.isSome = true
              ∧ s.plant.outranks cls (s.plant.classOf x))
            (fun x => (s.plant.allot x.slot).requestCost - (s.plant.allot x.slot).floorCost) (need - pending) vs
          let sheddable := fun vs => takenInOrder s.plant.lostBefore (fun x => x ∈ e.grants
              ∧ ((s.plant.allot x.slot).state = .rising ∨ (s.plant.allot x.slot).state = .running
                ∨ (s.plant.allot x.slot).state = .reduced)
              ∧ s.plant.outranks cls (s.plant.classOf x))
            (fun x => (s.plant.allot x.slot).charge) (need - pending) vs
          let staged := fun (vs : List Handle) (d : Allotment → Term → Nat) (o : FallOutcome) =>
            let charge := fun x : Handle => s.plant.transitionCharge (s.plant.allot x.slot).terms (d (s.plant.allot x.slot))
            answers 2
            ∧ t.plant.eng = { e with
                allots := t.plant.eng.allots, binding := t.plant.eng.binding
                queue := e.queue.filter fun x => x ∉ vs, stage := some h
                committed := e.committed - (vs.map fun x => (s.plant.allot x.slot).charge).sum + (vs.map charge).sum }
            ∧ t.plant.allot i = { record with state := .staged }
            ∧ (∀ x ∈ vs, let a := s.plant.allot x.slot
                t.plant.allot x.slot = { a with
                  terms := a.terms.map fun u => { u with target := d a u }, state := .falling o, charge := charge x
                  changed := true, commandId := a.commandId + 1, unsettled := a.terms.map Term.channel })
            ∧ (∀ j, j ≠ i → j ∉ vs.map Handle.slot → t.plant.allot j = s.plant.allot j)
            ∧ t.plant.out = vs.foldl (fun o x => let a := s.plant.allot x.slot
                o.command a.terms (d a) (a.commandId + 1)) s.plant.out
          (need ≤ pending → staged [] (fun _ _ => 0) .waiting)
          ∧ (pending < need →
            (∀ vs, reducible vs → staged vs (fun a u => match a.floor with
              | some f => max 1 (u.requested * f.fraction / 16)
              | none => u.requested) .reduced)
            ∧ ((∀ vs, ¬reducible vs) →
              (∀ vs, sheddable vs → staged vs (fun _ _ => 0) .waiting)
              ∧ ((∀ vs, ¬sheddable vs) → waits (h :: e.queue))))))

/-- The tests of a CLAIM in the order of R17 and R18: the first that fails gives the reply, and nothing else changes. The
length is that of the layout of 10.2, from the count and flag bytes; the field ranges are those of 10.2, with no channel
twice (R178). A payload within them is read by that layout: class, terms in order, floor, run limit, tag. -/
def Obligations.ClaimRefusedByTheFirstFailingTest : Prop :=
  ∀ (s : State) (c : ClientIx) (p : List Byte), s.inReset = false → s.ctl.part = .run →
    let x := s.plant.client c
    let cost := s.plant.requestCostOf (claimTerms p)
    let refused := fun b : BlockReply => exec (.claim (.client c) p) s = .next (s.answered .claim (.client c) p b)
    let at_ := fun k : Nat => (p.getD k 0).toNat
    let bit := fun k : Nat => at_ 2 / 2 ^ k % 2
    let n := at_ 1
    let floorAt := 3 + 2 * n
    let runAt := floorAt + bit 0
    let tagAt := runAt + 2 * bit 1
    let lengthFits := 3 ≤ p.length ∧ p.length = tagAt + 2 * bit 2
    let fieldsFit := at_ 0 ≤ 5 ∧ 1 ≤ n ∧ n ≤ 4 ∧ at_ 2 ≤ 7
      ∧ (∀ k < n, at_ (3 + 2 * k) ≤ 15 ∧ 1 ≤ at_ (4 + 2 * k))
      ∧ (∀ j k, j < k → k < n → at_ (3 + 2 * j) ≠ at_ (3 + 2 * k))
      ∧ (bit 0 = 1 → 1 ≤ at_ floorAt ∧ at_ floorAt ≤ 15) ∧ (bit 1 = 1 → 1 ≤ 256 * at_ runAt + at_ (runAt + 1))
    (x.state = .idle → refused (.bare .notJoined))
    ∧ (x.state = .lapsed → refused (.bare .lapsed))
    ∧ (x.state = .active → ¬lengthFits → refused (.bare .badLength))
    ∧ (x.state = .active → lengthFits → ¬fieldsFit → refused (.bare .badField))
    ∧ (x.state = .active → lengthFits → fieldsFit →
        ∀ pre post t, claimTerms p = pre ++ t :: post →
          (∀ u ∈ pre, (s.plant.chan u.channel).enabled = true ∧ (s.plant.chan u.channel).state ≠ .faulted
            ∧ s.plant.eng.binding[u.channel] = none) →
          ((s.plant.chan t.channel).enabled = false → refused ⟨.channelDisabled, [channelByte t.channel]⟩)
          ∧ ((s.plant.chan t.channel).enabled = true → (s.plant.chan t.channel).state = .faulted →
              refused ⟨.channelFault, [channelByte t.channel]⟩)
          ∧ ((s.plant.chan t.channel).enabled = true → (s.plant.chan t.channel).state ≠ .faulted →
              s.plant.eng.binding[t.channel] ≠ none → refused ⟨.channelHeld, [channelByte t.channel]⟩))
    ∧ (x.state = .active → lengthFits → fieldsFit →
        (∀ u ∈ claimTerms p, (s.plant.chan u.channel).enabled = true ∧ (s.plant.chan u.channel).state ≠ .faulted
          ∧ s.plant.eng.binding[u.channel] = none) →
          (s.lim.configured < cost → refused (.bare .overCeiling))
          ∧ (cost ≤ s.lim.configured → x.quota < x.claimed + cost → refused (.bare .overQuota))
          ∧ (cost ≤ s.lim.configured → x.claimed + cost ≤ x.quota → (∀ i, (s.plant.allot i).state ≠ .free) →
              refused (.bare .tableFull)))
    ∧ (claimLengthOk p = true ↔ lengthFits) ∧ (lengthFits → (claimFieldsOk p = true ↔ fieldsFit))
    ∧ (lengthFits → fieldsFit → (claimClass p).val = at_ 0
        ∧ (claimTerms p).map (fun t => (t.channel.val, t.requested, t.target))
            = (List.range n).map (fun k => (at_ (3 + 2 * k), at_ (4 + 2 * k), 0))
        ∧ claimFloor p = (if bit 0 = 1 then some (at_ floorAt) else none)
        ∧ claimRun p = (if bit 1 = 1 then some (256 * at_ runAt + at_ (runAt + 1)) else none)
        ∧ claimTag p = (if bit 2 = 1 then some (BitVec.ofNat 16 (256 * at_ tagAt + at_ (tagAt + 1))) else none))

/-- The handle of a QUERY, RELEASE, RETRY or RESHAPE that has passed the request's own earlier checks is tested in the
order of R6: a slot number outside 1 to 32 gives BAD_FIELD; a client that does not own the slot NOT_OWNER, which the
supervisor skips; a handle that is not current STALE_HANDLE; nothing changes. -/
def Obligations.HandlesAreTestedInOrder : Prop :=
  ∀ (s : State) (snd : Sender) (cmd : Instr) (r : Request) (p : List Byte) (b g : Byte), s.inReset = false →
    (∀ c, snd = .client c → (s.plant.client c).state = .active) → requestOf cmd = some (r, snd, p) →
    ((r = .query ∨ r = .release) ∧ p = [b, g]) ∨ (r = .retry ∧ s.ctl.part = .run ∧ p = [b, g])
      ∨ (r = .reshape ∧ s.ctl.part = .run ∧ snd ≠ .supervisor
          ∧ ∃ ds, p = b :: g :: ds ∧ 1 ≤ ds.length ∧ ds.length ≤ 4) →
    let refused := fun st : Status => exec cmd s = .next (s.answered r snd p (.bare st))
    (b.toNat = 0 ∨ 32 < b.toNat → refused .badField)
    ∧ ∀ i : SlotIx, b.toNat = i.val + 1 →
      (∀ c, snd = .client c → (s.plant.allot i).owner ≠ some c → refused .notOwner)
      ∧ ((∀ c, snd = .client c → (s.plant.allot i).owner = some c) → ¬s.plant.current ⟨i, g⟩ → refused .staleHandle)

/-- A QUERY is tested for a client that is ACTIVE and for its length, the supervisor skipping the first (and then by R6,
as `HandlesAreTestedInOrder` says). A QUERY of a current handle is answered with the record and the present channel
states, in the layout of 10.4: handle, owner's slot and id, class, state, outcome or FFh, presence flags, changed flag,
queue position or 0, charge, request cost, the groups of floor, run limit and tag that are present, and five bytes for
each term. The owner's QUERY clears the changed flag and changes nothing else, the supervisor's changes nothing (R22 to
R24, R179). The states are carried by the codes of 10.3. -/
def Obligations.QueryAnswersAndOnlyTheOwnerClearsTheFlag : Prop :=
  (∀ (s : State) (i : SlotIx), s.inReset = false → (s.plant.allot i).state ≠ .free →
    let a := s.plant.allot i
    let position : Nat := if a.state = .waiting ∨ a.state = .reduced then
      (match s.plant.eng.queue.findIdx? fun h => h.slot = i with | some k => k + 1 | none => 0) else 0
    let reply := BlockReply.okWith (
      [byte (i.val + 1), a.generation, (match a.owner with | some c => byte (c.val + 1) | none => 0),
        (match a.owner with | some c => (s.plant.client c).id.getD 0 | none => 0), byte a.cls.val, byte a.state.code,
        (match a.state with
          | .falling .free => 0 | .falling .waiting => 1 | .falling .running => 4 | .falling .reduced => 5
          | .free | .waiting | .staged | .rising | .running | .reduced | .tripped => 0xFF),
        byte (a.floor.isSome.toNat + 2 * a.run.isSome.toNat + 4 * a.tag.isSome.toNat), flag a.changed, byte position]
      ++ word a.charge ++ word a.requestCost
      ++ (match a.floor with | some f => byte f.fraction :: word f.cost | none => [])
      ++ (match a.run with | some r => word r.limit ++ word r.remaining | none => [])
      ++ (match a.tag with | some t => word t.toNat | none => [])
      ++ byte a.terms.length :: a.terms.flatMap fun t =>
          [byte t.channel.val, byte t.requested, byte t.target, byte (s.plant.chan t.channel).applied,
            (s.plant.chan t.channel).state.code])
    (∀ (snd : Sender) (p : List Byte),
      let refused := fun st : Status => exec (.query snd p) s = .next (s.answered .query snd p (.bare st))
      (∀ c, snd = .client c → (s.plant.client c).state = .idle → refused .notJoined)
      ∧ (∀ c, snd = .client c → (s.plant.client c).state = .lapsed → refused .lapsed)
      ∧ ((∀ c, snd = .client c → (s.plant.client c).state = .active) → p.length ≠ 2 → refused .badLength))
    ∧ (∀ c, (s.plant.client c).state = .active → a.owner = some c →
      exec (.query (.client c) [byte (i.val + 1), a.generation]) s = .next (State.answered
        { s with plant := { s.plant with eng := { s.plant.eng with
            allots := s.plant.eng.allots.set i { a with changed := false } } } }
        .query (.client c) [byte (i.val + 1), a.generation] reply))
    ∧ exec (.query .supervisor [byte (i.val + 1), a.generation]) s = .next (s.answered
        .query .supervisor [byte (i.val + 1), a.generation] reply))
  ∧ [AllotState.free, .waiting, .staged, .rising, .running, .reduced, .falling .free, .falling .waiting,
      .falling .reduced, .falling .running, .tripped].map AllotState.code = [0, 1, 2, 3, 4, 5, 6, 6, 6, 6, 7]
  ∧ [ChannelState.off, .rise, .on, .fall, .faulted].map ChannelState.code = [0, 1, 2, 3, 4]

/-! ### RESHAPE and RELEASE (chapter 4) -/

/-- A RESHAPE of a WAITING allotment stores the new duties and costs and moves the claimed total by the difference;
state, charge, place in the queue and changed flag stay, and no pass runs (R81, R84). -/
def Obligations.ReshapeOfWaitingStoresTheDutiesInPlace : Prop :=
  ∀ (s : State) (c : ClientIx) (i : SlotIx) (ds : List Byte),
    s.reshapePasses c i ds → (s.plant.allot i).state = .waiting →
    let a := s.plant.allot i
    let terms := List.zipWith (fun (t : Term) (d : Byte) => { t with requested := d.toNat }) a.terms ds
    let a' : Allotment := { a with
      terms := terms, requestCost := s.plant.requestCostOf terms
      floor := a.floor.map fun f => { fraction := f.fraction, cost := s.plant.floorCostOf terms f.fraction } }
    exec (.reshape (.client c) ((s.plant.handleOf i).bytes ++ ds)) s = .next (State.answered
      { s with plant := { s.plant with
          eng := { s.plant.eng with allots := s.plant.eng.allots.set i a' }
          clients := s.plant.clients.set c { s.plant.client c with
            claimed := (s.plant.client c).claimed + a'.requestCost - a.requestCost } } }
      .reshape (.client c) ((s.plant.handleOf i).bytes ++ ds)
      (.okWith ((s.plant.handleOf i).bytes ++ [1, 0xFF] ++ word a'.requestCost ++ word a'.floorCost ++ word a.charge)))

/-- A RESHAPE of a RUNNING allotment, settled at its requested duties, that changes a duty and, where one rises, fits:
the new duties and costs are stored and a transition starts toward them, RISING if a duty rises and FALLING with outcome
RUNNING otherwise, with the transition charge over old and new duties; the claimed total follows and the reply carries
the figures after the event (R82 to R84). What its one transition command, as every other, does to the channels in list
order: each takes the identity and the target, RISE below it, FALL above it, its state with a report due at it; one that
leaves OFF is placed in the lowest-numbered phase slot of least load; a FAULTED one takes nothing (R105, R110, R112,
R113). A report of the command before, which R72 discards, no longer waits (log entry 13, DEDUCED). -/
def Obligations.ReshapeOfRunningStartsATransition : Prop :=
  (∀ (s : State) (c : ClientIx) (i : SlotIx) (ds : List Byte),
    s.reshapePasses c i ds → (s.plant.allot i).state = .running →
    (∀ t ∈ (s.plant.allot i).terms, (s.plant.chan t.channel).applied = t.requested) →
    (s.plant.allot i).terms.map (·.requested) ≠ ds.map BitVec.toNat →
    let a := s.plant.allot i
    let h := [byte (i.val + 1), a.generation]
    let terms := List.zipWith (fun (t : Term) (d : Byte) => { t with requested := d.toNat }) a.terms ds
    let charge := (List.zipWith (fun (t : Term) (d : Byte) =>
      costAt (s.plant.chan t.channel).rating (max t.requested d.toNat)) a.terms ds).sum
    let floor := a.floor.map fun f => { fraction := f.fraction, cost := s.plant.floorCostOf terms f.fraction : FloorPart }
    let rises := (List.zipWith (fun (t : Term) (d : Byte) => decide (t.requested < d.toNat)) a.terms ds).any id
    (rises = true → s.plant.eng.committed + s.plant.reserve + (charge - a.charge) ≤ s.lim.effective) →
    ∃ t, exec (.reshape (.client c) (h ++ ds)) s = .next t
      ∧ t = State.answered { s with plant := t.plant } .reshape (.client c) (h ++ ds)
          (.okWith (h ++ (if rises then [3, 0xFF] else [6, 4] : List Byte) ++ word (s.plant.requestCostOf terms)
            ++ word (match floor with | some f => f.cost | none => 0) ++ word charge))
      ∧ t.plant.eng = { s.plant.eng with
          allots := s.plant.eng.allots.set i { a with
            terms := terms.map fun x => { x with target := x.requested }
            requestCost := s.plant.requestCostOf terms
            floor := floor
            state := if rises then .rising else .falling .running
            charge := charge, commandId := a.commandId + 1, unsettled := a.terms.map Term.channel }
          committed := s.plant.eng.committed - a.charge + charge }
      ∧ t.plant.out = s.plant.out.command terms (·.requested) (a.commandId + 1)
      ∧ t.plant.clients = s.plant.clients.set c { s.plant.client c with
          claimed := (s.plant.client c).claimed + s.plant.requestCostOf terms - a.requestCost })
  ∧ ∀ (o : OutputStage) (id : BitVec 16) (d : Term → Nat),
    o.command [] d id = o
    ∧ ∀ (x : Term) (rest : List Term), ∃ (q : OutputStage) (least : PhaseIx),
      o.command (x :: rest) d id = q.command rest d id
      ∧ (let load := fun k : PhaseIx =>
          (((List.finRange 16).filter fun n => o.channels[n].phase = some k).map fun n => o.channels[n].rating).sum
        (∀ k, load least ≤ load k) ∧ ∀ k, k < least → load least < load k)
      ∧ (let c := o.channels[x.channel]
        (c.state = .faulted → q = o)
        ∧ (c.state ≠ .faulted → q = { o with
            reports := o.reports.filter fun r => r.channel ≠ x.channel
            channels := o.channels.set x.channel { c with
              command := some id, target := d x, reportDue := decide (d x = c.applied)
              state := if c.applied < d x then .rise else if d x < c.applied then .fall else c.state
              phase := if c.applied < d x ∧ c.state = .off then some least else c.phase } }))

/-- A RESHAPE in RUN is tested in the order of R80: the client's state, the length of 3 to 6 bytes, the handle (as
`HandlesAreTestedInOrder` says), as many duties as terms, no duty 0, RUNNING or WAITING, the quota, the configured ceiling;
the first failure gives the status and nothing changes. One of a RUNNING allotment to the duties it has changes nothing
and is answered OK; one that raises a duty by more than the effective ceiling less the committed charge less the reserve
is refused with NO_ROOM, which carries the increase and that budget (R80, R82, R83, R84). -/
def Obligations.ReshapeRefusedOrToTheSameDutiesChangesNothing : Prop :=
  (∀ (s : State) (c : ClientIx) (p : List Byte), s.inReset = false → s.ctl.part = .run →
    let x := s.plant.client c
    let refused := fun st : Status =>
      exec (.reshape (.client c) p) s = .next (s.answered .reshape (.client c) p (.bare st))
    (x.state = .idle → refused .notJoined)
    ∧ (x.state = .lapsed → refused .lapsed)
    ∧ (x.state = .active → p.length < 3 ∨ 6 < p.length → refused .badLength)
    ∧ ∀ (i : SlotIx) (ds : List Byte), s.ownerAsks c i → p = (s.plant.handleOf i).bytes ++ ds →
      1 ≤ ds.length → ds.length ≤ 4 →
      let a := s.plant.allot i
      let cost := s.plant.requestCostOf
        (List.zipWith (fun (t : Term) (d : Byte) => { t with requested := d.toNat }) a.terms ds)
      (ds.length ≠ a.terms.length → refused .badLength)
      ∧ (ds.length = a.terms.length → 0 ∈ ds → refused .badField)
      ∧ (ds.length = a.terms.length → 0 ∉ ds → a.state ≠ .running → a.state ≠ .waiting → refused .wrongState)
      ∧ (ds.length = a.terms.length → 0 ∉ ds → a.state = .running ∨ a.state = .waiting →
        (x.quota < x.claimed + cost - a.requestCost → refused .overQuota)
        ∧ (x.claimed + cost - a.requestCost ≤ x.quota → s.lim.configured < cost → refused .overCeiling)))
  ∧ ∀ (s : State) (c : ClientIx) (i : SlotIx) (ds : List Byte),
    s.reshapePasses c i ds → (s.plant.allot i).state = .running →
    let a := s.plant.allot i
    let h := (s.plant.handleOf i).bytes
    let increase := (List.zipWith (fun (t : Term) (d : Byte) =>
      costAt (s.plant.chan t.channel).rating (max t.requested d.toNat)) a.terms ds).sum - a.charge
    (a.terms.map (·.requested) = ds.map BitVec.toNat →
      exec (.reshape (.client c) (h ++ ds)) s = .next (s.answered .reshape (.client c) (h ++ ds)
        (.okWith (h ++ [4, 0xFF] ++ word a.requestCost ++ word a.floorCost ++ word a.charge))))
    ∧ ((List.zipWith (fun (t : Term) (d : Byte) => decide (t.requested < d.toNat)) a.terms ds).any id = true →
      s.lim.effective < s.plant.eng.committed + s.plant.reserve + increase →
      exec (.reshape (.client c) (h ++ ds)) s = .next (s.answered .reshape (.client c) (h ++ ds)
        ⟨.noRoom, word increase ++ word (s.lim.effective - s.plant.eng.committed - s.plant.reserve)⟩))

/-- A RELEASE is tested for a client that is ACTIVE and for its length, the supervisor skipping the first (and then by R6,
as `HandlesAreTestedInOrder` says). Of an allotment that holds no output, from its owner or from the supervisor, it frees
the slot in the event: the FREE contents with the generation advanced, channels unbound, claimed total lowered; a WAITING
one leaves the queue, a STAGED one empties the stage, a TRIPPED one leaves its latches as they stand. The supervisor's
retires the allotment. The emptied stage brings a pass over the queue, the others none (R2, R5, R52, R66, R86, R87, R91,
R92). That a FREE record shows class 0 and request cost 0 is the model's choice (log entry 17). -/
def Obligations.ReleaseWithoutOutputFreesTheSlotAtOnce : Prop :=
  (∀ (s : State) (snd : Sender) (q : List Byte), s.inReset = false →
    let refused := fun st : Status => exec (.release snd q) s = .next (s.answered .release snd q (.bare st))
    (∀ c, snd = .client c → (s.plant.client c).state = .idle → refused .notJoined)
    ∧ (∀ c, snd = .client c → (s.plant.client c).state = .lapsed → refused .lapsed)
    ∧ ((∀ c, snd = .client c → (s.plant.client c).state = .active) → q.length ≠ 2 → refused .badLength))
  ∧ ∀ (s : State) (c : ClientIx) (i : SlotIx) (snd : Sender), s.ownerAsks c i → snd = .client c ∨ snd = .supervisor →
    (s.plant.allot i).charge = 0 →
    let a := s.plant.allot i
    let e := s.plant.eng
    let h := (s.plant.handleOf i).bytes
    a.state = .waiting ∨ a.state = .tripped ∨ (a.state = .staged ∧ e.stage = some (s.plant.handleOf i)) →
    ∃ p : Plant, exec (.release snd h) s = .next (State.answered
        { s with plant := if a.state = .staged then
            passWalk s.lim.effective (if snd = .supervisor then .other else .owner i) e.queue p else p }
        .release snd h (.okWith (h ++ [0, 0xFF, 0, 0])))
      ∧ p.eng = { e with
          allots := e.allots.set i { a.asFree with generation := a.generation + 1 }
          binding := p.eng.binding
          queue := if a.state = .waiting then e.queue.filter fun h => h.slot ≠ i else e.queue
          stage := if a.state = .staged then none else e.stage }
      ∧ (∀ n, p.eng.binding[n] = if n ∈ a.terms.map Term.channel then none else e.binding[n])
      ∧ p.out = s.plant.out
      ∧ p.clients = s.plant.clients.set c { s.plant.client c with
          claimed := (s.plant.client c).claimed - a.requestCost
          retired := if snd = .supervisor then min 255 ((s.plant.client c).retired + 1) else (s.plant.client c).retired }

/-- A RELEASE of an allotment that drives its channels, from its owner or from the supervisor: a fall to FREE from the
duties applied now, every target 0, the charge their cost, one transition command; a REDUCED one leaves the queue; the
place in the grant list stays. The supervisor's also sets the changed flag and retires the allotment. Where that lowers
the committed charge with the stage empty a pass over the queue follows, and with the stage occupied none. On FALLING with
outcome FREE a RELEASE changes nothing (R52, R71, R88 to R92). -/
def Obligations.ReleaseWithOutputStartsAFallToFree : Prop :=
  ∀ (s : State) (c : ClientIx) (i : SlotIx) (snd : Sender), s.ownerAsks c i → snd = .client c ∨ snd = .supervisor →
    let a := s.plant.allot i
    let e := s.plant.eng
    let h := (s.plant.handleOf i).bytes
    let charge := s.plant.transitionCharge a.terms fun _ => 0
    let p : Plant :=
      { eng := { e with
          allots := e.allots.set i { a with
            terms := a.terms.map fun x => { x with target := 0 }, state := .falling .free, charge := charge
            changed := a.changed || decide (snd = .supervisor)
            commandId := a.commandId + 1, unsettled := a.terms.map Term.channel }
          queue := if a.state = .reduced then e.queue.filter fun h => h.slot ≠ i else e.queue
          committed := e.committed - a.charge + charge }
        out := s.plant.out.command a.terms (fun _ => 0) (a.commandId + 1)
        clients := if snd = .supervisor then s.plant.clients.set c { s.plant.client c with
          retired := min 255 ((s.plant.client c).retired + 1) } else s.plant.clients }
    (a.state.granted = true → a.state ≠ .falling .free →
      exec (.release snd h) s = .next (State.answered
        { s with plant := if e.stage = none ∧ p.eng.committed < e.committed then
            passWalk s.lim.effective (if snd = .supervisor then .other else .owner i) p.eng.queue p else p }
        .release snd h (.okWith (h ++ [6, 0] ++ word charge))))
    ∧ (a.state = .falling .free → exec (.release snd h) s = .next (s.answered .release snd h
        (.okWith (h ++ [6, 0] ++ word a.charge))))

/-! ### RETRY, SCAN and SET_CLASSES (chapters 3, 6 and 7) -/

/-- A RETRY in RUN is tested for a client that is ACTIVE, for its length, by R6 (`HandlesAreTestedInOrder`), and for a
TRIPPED allotment. Where no latched channel of it has an active input: each latch is cleared and the allotment is WAITING
at the back of its rank, charge 0 and targets 0, its flag set only by a supervisor's RETRY; with the stage empty a pass
over the queue follows, and the reply shows the state after it. Where some latched channel has an active input:
CHANNEL_FAULT with the first such channel, the allotment unchanged, and the other latches cleared all the same (R46, R52,
R123 to R125). -/
def Obligations.RetryClearsLatchesAndRequeues : Prop :=
  ∀ (s : State) (snd : Sender), s.inReset = false → s.ctl.part = .run →
    let refused := fun (q : List Byte) (st : Status) =>
      exec (.retry snd q) s = .next (s.answered .retry snd q (.bare st))
    (∀ c q, snd = .client c → (s.plant.client c).state = .idle → refused q .notJoined)
    ∧ (∀ c q, snd = .client c → (s.plant.client c).state = .lapsed → refused q .lapsed)
    ∧ (∀ q, (∀ c, snd = .client c → (s.plant.client c).state = .active) → q.length ≠ 2 → refused q .badLength)
    ∧ ∀ (c : ClientIx) (i : SlotIx), s.ownerAsks c i → snd = .client c ∨ snd = .supervisor →
    let a := s.plant.allot i
    let e := s.plant.eng
    let h := (s.plant.handleOf i).bytes
    let stuck := fun n : ChannelIx => (s.plant.chan n).state = .faulted ∧ s.pins.faultLow[n] = true
    (a.state ≠ .tripped → refused h .wrongState)
    ∧ (a.state = .tripped → ∃ p : Plant, p.clients = s.plant.clients
      ∧ p.out = { s.plant.out with channels := p.out.channels }
      ∧ (∀ n, p.chan n =
          if n ∈ a.terms.map Term.channel ∧ (s.plant.chan n).state = .faulted ∧ s.pins.faultLow[n] = false then
            { s.plant.chan n with
              state := .off, applied := 0, target := 0, command := none, reportDue := false, phase := none
              pulse := 0, tail := 0 }
          else s.plant.chan n)
      ∧ ((∀ x ∈ a.terms, ¬stuck x.channel) →
          p.eng = { e with
            allots := e.allots.set i { a with
              terms := a.terms.map fun x => { x with target := 0 }, unsettled := [], state := .waiting, charge := 0
              changed := a.changed || decide (snd = .supervisor) }
            queue := placeBack s.plant a.cls (s.plant.handleOf i) e.queue
            committed := e.committed - a.charge }
          ∧ (s.plant.queueOrdered → s.plant.queuedAtBack a.cls (s.plant.handleOf i) e.queue p.eng.queue)
          ∧ (let q := if e.stage = none then
              passWalk s.lim.effective (if snd = .supervisor then .other else .owner i) p.eng.queue p else p
            exec (.retry snd h) s = .next (State.answered { s with plant := q } .retry snd h
              (.okWith (h ++ [byte (q.allot i).state.code])))))
      ∧ (∀ pre x post, a.terms = pre ++ x :: post → (∀ y ∈ pre, ¬stuck y.channel) → stuck x.channel →
          p.eng = e ∧ exec (.retry snd h) s = .next (State.answered { s with plant := p } .retry snd h
            ⟨.channelFault, [channelByte x.channel]⟩)))

/-- A SCAN is tested for a client that is ACTIVE and for an empty payload, the supervisor skipping the first. It lists the
client's own non-FREE allotments, or every owner's for the supervisor, in slot order after a count.
Each entry has seven bytes: handle; owner's slot and class; state code and outcome, 0Fh for none; changed flag in bit 15
over the charge; queue position or 0. The client's SCAN clears the changed flag of each listed allotment and nothing
else, the supervisor's clears nothing (R143, R144, R180). -/
def Obligations.ScanListsAndOnlyTheClientClearsFlags : Prop :=
  ∀ s : State, s.inReset = false →
    let entry := fun i : SlotIx =>
      let a := s.plant.allot i
      let position : Nat := if a.state = .waiting ∨ a.state = .reduced then
        (match s.plant.eng.queue.findIdx? fun h => h.slot = i with | some k => k + 1 | none => 0) else 0
      [byte (i.val + 1), a.generation,
        byte (16 * (match a.owner with | some c => c.val + 1 | none => 0) + a.cls.val),
        byte (match a.state with
          | .free => 0x0F | .waiting => 0x1F | .staged => 0x2F | .rising => 0x3F | .running => 0x4F | .reduced => 0x5F
          | .falling .free => 0x60 | .falling .waiting => 0x61 | .falling .running => 0x64 | .falling .reduced => 0x65
          | .tripped => 0x7F)]
      ++ word ((if a.changed then 32768 else 0) + a.charge) ++ [byte position]
    let refused := fun (snd : Sender) (q : List Byte) (st : Status) =>
      exec (.scan snd q) s = .next (s.answered .scan snd q (.bare st))
    (∀ c q, (s.plant.client c).state = .idle → refused (.client c) q .notJoined)
    ∧ (∀ c q, (s.plant.client c).state = .lapsed → refused (.client c) q .lapsed)
    ∧ (∀ snd q, (∀ c, snd = .client c → (s.plant.client c).state = .active) → q ≠ [] → refused snd q .badLength)
    ∧ (∀ c, (s.plant.client c).state = .active →
      let own := (List.finRange 32).filter fun i => (s.plant.allot i).state ≠ .free ∧ (s.plant.allot i).owner = some c
      ∃ t, exec (.scan (.client c) []) s = .next t
        ∧ t = State.answered { s with plant := t.plant } .scan (.client c) []
            (.okWith (byte own.length :: own.flatMap entry))
        ∧ (∀ i, t.plant.allot i = if (s.plant.allot i).state ≠ .free ∧ (s.plant.allot i).owner = some c then
            { s.plant.allot i with changed := false } else s.plant.allot i)
        ∧ t.plant = { s.plant with eng := { s.plant.eng with allots := t.plant.eng.allots } })
    ∧ (let all := (List.finRange 32).filter fun i => (s.plant.allot i).state ≠ .free
      exec (.scan .supervisor []) s = .next (s.answered .scan .supervisor []
        (.okWith (byte all.length :: all.flatMap entry))))

/-- SET_CLASSES from a client, of another length than six, or with a level above 3 is refused in that order and changes
nothing. Accepted, it stores the six levels and lists the classes from highest rank to lowest. Levels that all stay move
nothing. With a level changed, the queue is regrouped from highest rank to lowest, each class keeping its own order, and
nothing else changes; with the stage empty a pass over the regrouped queue follows (R41, R42, R43, R52). -/
def Obligations.SetClassesRegroupsTheQueue : Prop :=
  ∀ (s : State) (q : List Byte), s.inReset = false →
    let e := s.plant.eng
    let refused := fun (snd : Sender) (st : Status) =>
      exec (.setClasses snd q) s = .next (s.answered .setClasses snd q (.bare st))
    (∀ c, (s.plant.client c).state ≠ .unset → refused (.client c) .supervisorOnly)
    ∧ (q.length ≠ 6 → refused .supervisor .badLength)
    ∧ (q.length = 6 → (∃ b ∈ q, 3 < b.toNat) → refused .supervisor .badField)
    ∧ (q.length = 6 → (∀ b ∈ q, b.toNat ≤ 3) → ∃ (p : Plant) (ranked : List ClassIx),
      exec (.setClasses .supervisor q) s = .next (State.answered
        { s with plant := if p.eng.levels ≠ e.levels ∧ e.stage = none then
            passWalk s.lim.effective .other p.eng.queue p else p }
        .setClasses .supervisor q (.okWith (q ++ ranked.map fun c => byte c.val)))
      ∧ ranked.length = 6 ∧ ranked.Pairwise p.outranks
      ∧ p = { s.plant with eng := { e with levels := p.eng.levels, queue := p.eng.queue } }
      ∧ (∀ c : ClassIx, p.eng.levels[c].val = byteAt q c.val)
      ∧ (p.eng.levels = e.levels → p.eng.queue = e.queue)
      ∧ (p.eng.levels ≠ e.levels → p.queueOrdered)
      ∧ ∀ c, (p.eng.queue.filter fun h => s.plant.classOf h = c) = e.queue.filter fun h => s.plant.classOf h = c)

/-! ### Clients (chapter 7) -/

/-- JOIN with a payload is refused. From IDLE or LAPSED the client becomes ACTIVE with its window timer at the full window
and nothing is released; from ACTIVE its allotments are released as its own request, with no flag set and none retired,
with one pass over the queue where the committed charge fell or the stage emptied and the stage is empty, and it stays
ACTIVE. In every case the number released and the retired count as it stood go into the reply, with the claimed total
after the event, and the count is 0 after (R52, R94, R134). That a FREE record shows class 0 and request cost 0 is the
model's choice (log entry 17). -/
def Obligations.JoinActivatesTheClient : Prop :=
  ∀ (s : State) (c : ClientIx), s.inReset = false → (s.plant.client c).state ≠ .unset →
    let x := s.plant.client c
    let reply := fun released claimed : Nat =>
      BlockReply.okWith ([byte released, byte x.retired] ++ word x.quota ++ [byte x.window] ++ word claimed)
    (∀ q, q ≠ [] → exec (.join (.client c) q) s = .next (s.answered .join (.client c) q (.bare .badLength)))
    ∧ (x.state = .idle ∨ x.state = .lapsed →
      exec (.join (.client c) []) s = .next (State.answered
        { s with plant := { s.plant with clients := s.plant.clients.set c { x with
            state := .active, timer := if x.window = 0 then none else some (100 * x.window), retired := 0 } } }
        .join (.client c) [] (reply 0 x.claimed)))
    ∧ (x.state = .active → s.plant.ownedBy c = [] →
      exec (.join (.client c) []) s = .next (State.answered
        { s with plant := { s.plant with clients := s.plant.clients.set c { x with retired := 0 } } }
        .join (.client c) [] (reply 0 x.claimed)))
    ∧ (x.state = .active → s.plant.accountsAgree → ∃ p : Plant, s.plant.clientReleased c false p ∧
      let q := if p.eng.stage = none ∧ (p.eng.committed < s.plant.eng.committed ∨ s.plant.eng.stage.isSome = true) then
        passWalk s.lim.effective (.ownerAll c) p.eng.queue p else p
      exec (.join (.client c) []) s = .next (State.answered
        { s with plant := { q with clients := p.clients.set c { p.client c with retired := 0 } } }
        .join (.client c) [] (reply
          ((List.finRange 32).filter fun i => (s.plant.allot i).state ≠ .free ∧ (s.plant.allot i).owner = some c
            ∧ (s.plant.allot i).state ≠ .falling .free).length
          (p.client c).claimed)))

/-- LEAVE is tested for a client that is ACTIVE and for an empty payload. A client that sends LEAVE becomes IDLE, and one
whose window expires becomes LAPSED; either loses its timer, and its allotments are released. LEAVE sets no flag, retires
none, and answers with the number released and the claimed total after the event; a lapse flags each allotment it makes
fall and retires each one not already FALLING/FREE. One pass over the queue follows where the committed charge fell or the
stage emptied and the stage is empty. Without allotments nothing else changes (R52, R94, R135, R138, R140). That a FREE
record shows class 0 and request cost 0 is the model's choice (log entry 17). -/
def Obligations.LeaveAndLapseEndThePresenceOfAClient : Prop :=
  ∀ (s : State) (c : ClientIx), s.inReset = false →
    let x := s.plant.client c
    let refused := fun (q : List Byte) (st : Status) =>
      exec (.leave (.client c) q) s = .next (s.answered .leave (.client c) q (.bare st))
    let passed := fun (p : Plant) (o : Origin) =>
      if p.eng.stage = none ∧ (p.eng.committed < s.plant.eng.committed ∨ s.plant.eng.stage.isSome = true) then
        passWalk s.lim.effective o p.eng.queue p else p
    (∀ q, x.state = .idle → refused q .notJoined)
    ∧ (∀ q, x.state = .lapsed → refused q .lapsed)
    ∧ (∀ q, x.state = .active → q ≠ [] → refused q .badLength)
    ∧ (x.state = .active → s.plant.ownedBy c = [] →
      exec (.leave (.client c) []) s = .next (State.answered
        { s with plant := { s.plant with clients := s.plant.clients.set c { x with state := .idle, timer := none } } }
        .leave (.client c) [] (.okWith (0 :: word x.claimed)))
      ∧ (x.timer.isSome = true → exec (.windowExpiry c) s = .next { s with plant := { s.plant with
          clients := s.plant.clients.set c { x with state := .lapsed, timer := none } } }))
    ∧ (x.state = .active → s.plant.accountsAgree →
      (∃ p : Plant, s.plant.clientReleased c false p ∧ exec (.leave (.client c) []) s = .next (State.answered
        { s with plant := { passed p (.ownerAll c) with
            clients := p.clients.set c { p.client c with state := .idle, timer := none } } }
        .leave (.client c) [] (.okWith (byte
          ((List.finRange 32).filter fun i => (s.plant.allot i).state ≠ .free ∧ (s.plant.allot i).owner = some c
            ∧ (s.plant.allot i).state ≠ .falling .free).length :: word (p.client c).claimed))))
      ∧ (x.timer.isSome = true → ∃ p : Plant, s.plant.clientReleased c true p ∧
        exec (.windowExpiry c) s = .next { s with plant := { passed p .other with
          clients := p.clients.set c { p.client c with state := .lapsed, timer := none } } }))

/-- After a client release, by LEAVE, by a JOIN from ACTIVE or by a lapse, the client owns nothing but allotments in
FALLING with outcome FREE, whatever the pass of the same event does (R94, R130). -/
def Obligations.ClientReleaseLeavesOnlyFallsToFree : Prop :=
  ∀ (s t : State) (c : ClientIx) (i : SlotIx), s.inReset = false → (s.plant.client c).state = .active →
    exec (.leave (.client c) []) s = .next t ∨ exec (.join (.client c) []) s = .next t
      ∨ ((s.plant.client c).timer.isSome = true ∧ exec (.windowExpiry c) s = .next t) →
    (t.plant.allot i).state ≠ .free → (t.plant.allot i).owner = some c → (t.plant.allot i).state = .falling .free

/-- PING is tested for a client that is ACTIVE and for an empty payload, the supervisor skipping the first. A client's
reports its record, the part state, its allotments not FREE and those changed, and its attention,
and clears its retired count and nothing else; the supervisor's reports the eight records and clears nothing (R142).
Attention is a changed allotment of the client or a retired count above 0 (R141). -/
def Obligations.PingReportsAndClearsOnlyTheRetiredCount : Prop :=
  ∀ s : State, s.inReset = false →
    let refused := fun (snd : Sender) (q : List Byte) (st : Status) =>
      exec (.ping snd q) s = .next (s.answered .ping snd q (.bare st))
    let part : Byte := match s.ctl.part with | .setup => 0 | .run => 1
    let changed := fun c : ClientIx => (List.finRange 32).filter fun i =>
      (s.plant.allot i).state ≠ .free ∧ (s.plant.allot i).owner = some c ∧ (s.plant.allot i).changed = true
    let attention := fun c : ClientIx => flag (decide (changed c ≠ [] ∨ 0 < (s.plant.client c).retired))
    (∀ c q, (s.plant.client c).state = .idle → refused (.client c) q .notJoined)
    ∧ (∀ c q, (s.plant.client c).state = .lapsed → refused (.client c) q .lapsed)
    ∧ (∀ snd q, (∀ c, snd = .client c → (s.plant.client c).state = .active) → q ≠ [] → refused snd q .badLength)
    ∧ (∀ c, (s.plant.client c).state = .active →
      let x := s.plant.client c
      exec (.ping (.client c) []) s = .next (State.answered
        { s with plant := { s.plant with clients := s.plant.clients.set c { x with retired := 0 } } }
        .ping (.client c) [] (.okWith
          ([byte (c.val + 1), x.id.getD 0, part] ++ word x.quota ++ [byte x.window] ++ word x.claimed
            ++ [byte ((List.finRange 32).filter fun i =>
                  (s.plant.allot i).state ≠ .free ∧ (s.plant.allot i).owner = some c).length,
                byte (changed c).length, byte x.retired, attention c]))))
    ∧ exec (.ping .supervisor []) s = .next (s.answered .ping .supervisor []
        (.okWith (part :: (List.finRange 8).flatMap fun c =>
          [(s.plant.client c).id.getD 0,
            match (s.plant.client c).state with | .unset => 0 | .idle => 1 | .active => 2 | .lapsed => 3] ++ word (s.plant.client c).claimed
            ++ [byte (s.plant.client c).retired, attention c])))

/-- SET_CLIENT is tested in the order of R132: a client, another length than six, a field out of its range, an add, an id
change or a removal in RUN, an id change or a removal of an ACTIVE slot, an id that another configured slot holds, a
quota below the claimed total; the first failure gives the status and nothing changes. The four forms of an accepted one,
by the record found and the id sent: an add makes an UNSET slot IDLE; a change keeps state, claimed total and retired
count, and handles the window timer of an ACTIVE client by a differing window; an id change makes an IDLE or LAPSED slot
IDLE with retired count 0 and its reply slot emptied; a removal makes it UNSET, with its reply slot emptied (R133). -/
def Obligations.SetClientActsByItsForm : Prop :=
  ∀ s : State, s.inReset = false →
  (let refused := fun (snd : Sender) (q : List Byte) (st : Status) =>
    exec (.setClient snd q) s = .next (s.answered .setClient snd q (.bare st))
  (∀ c q, (s.plant.client c).state ≠ .unset → refused (.client c) q .supervisorOnly)
  ∧ (∀ q, q.length ≠ 6 → refused .supervisor q .badLength)
  ∧ (∀ b id w al qh ql : Byte, b.toNat = 0 ∨ 8 < b.toNat ∨ 0x7F < id.toNat ∨ 4095 < 256 * qh.toNat + ql.toNat ∨ 1 < al.toNat →
      refused .supervisor [b, id, qh, ql, w, al] .badField))
  ∧ ∀ (c : ClientIx) (id w al qh ql : Byte), id.toNat ≤ 0x7F → al.toNat ≤ 1 →
    let p := [byte (c.val + 1), id, qh, ql, w, al]
    let quota := 256 * qh.toNat + ql.toNat
    let x := s.plant.client c
    let refused := fun st : Status => exec (.setClient .supervisor p) s = .next (s.answered .setClient .supervisor p (.bare st))
    let takes := fun (y : Client) (t : Port) => exec (.setClient .supervisor p) s = .next (State.answered
      { s with plant := { s.plant with clients := s.plant.clients.set c y }, port := t } .setClient .supervisor p
      (.okWith ([byte (c.val + 1), y.id.getD 0] ++ word y.quota ++ [byte y.window, flag y.alert,
          match y.state with | .unset => 0 | .idle => 1 | .active => 2 | .lapsed => 3]
        ++ word y.claimed ++ [byte y.retired])))
    let freeId := ∀ d, d ≠ c → (s.plant.client d).state ≠ .unset → (s.plant.client d).id ≠ some id
    let isChange := x.state ≠ .unset ∧ x.id = some id ∧ id ≠ 0
    quota ≤ 4095 →
    (s.ctl.part = .run → ¬isChange → refused .notSetup)
    ∧ (s.ctl.part = .setup → ¬isChange → x.state = .active → refused .wrongState)
    ∧ (s.ctl.part = .setup → ¬isChange → x.state ≠ .active → id ≠ 0 → ¬freeId → refused .badField)
    ∧ (s.ctl.part = .setup → ¬isChange → x.state ≠ .active → id ≠ 0 → freeId → quota < x.claimed → refused .quotaInUse)
    ∧ (isChange → quota < x.claimed → refused .quotaInUse)
    ∧ (x.state = .unset → id ≠ 0 → s.ctl.part = .setup → freeId → x.claimed ≤ quota →
      takes { x with id := some id, quota := quota, window := w.toNat, alert := al == 1, state := .idle, claimed := 0,
                     retired := 0, timer := none } s.port)
    ∧ (isChange → x.claimed ≤ quota →
      takes { x with quota := quota, window := w.toNat, alert := al == 1,
                     timer := if x.state = .active ∧ w.toNat ≠ x.window then
                         (if w.toNat = 0 then none else some (100 * w.toNat)) else x.timer } s.port)
    ∧ (x.state = .idle ∨ x.state = .lapsed → x.id ≠ some id → id ≠ 0 → s.ctl.part = .setup → freeId →
        x.claimed ≤ quota →
      takes { x with id := some id, quota := quota, window := w.toNat, alert := al == 1, state := .idle, retired := 0,
                     timer := none } { s.port with clientSlots := s.port.clientSlots.set c none })
    ∧ (x.state = .idle ∨ x.state = .lapsed → id = 0 → s.ctl.part = .setup →
      takes Client.reset { s.port with clientSlots := s.port.clientSlots.set c none })
    ∧ (x.state = .unset → id = 0 → s.ctl.part = .setup → takes x s.port)

/-! ### The output stage (chapters 5 and 6) -/

/-- SET_CHANNEL in SETUP of another length than five, then with a channel, flag, rating or ramp step out of its range, is
refused and changes nothing. Accepted, it writes enable flag, rating and ramp step. Enabling a disabled channel latches an
active fault input; disabling an enabled one clears the latch; otherwise the state is kept (R97, R98). -/
def Obligations.SetChannelWritesTheRecordAndTheLatch : Prop :=
  ∀ s : State, s.inReset = false → s.ctl.part = .setup →
    let refused := fun (q : List Byte) (st : Status) =>
      exec (.setChannel .supervisor q) s = .next (s.answered .setChannel .supervisor q (.bare st))
    (∀ q, q.length ≠ 5 → refused q .badLength)
    ∧ ∀ b en rh rl st : Byte,
      let q := [b, en, rh, rl, st]
      let rating := 256 * rh.toNat + rl.toNat
      let fits := b.toNat ≤ 15 ∧ ((en = 1 ∧ 1 ≤ rating ∧ rating ≤ 1023) ∨ (en = 0 ∧ rating = 0)) ∧ st ≠ 0
      (¬fits → refused q .badField)
      ∧ ∀ n : ChannelIx, b.toNat = n.val → fits →
        let c := s.plant.chan n
        let c' := { c with enabled := en == 1, rating := rating, step := st.toNat }
        let takes := fun d : Channel => exec (.setChannel .supervisor q) s = .next (State.answered
          { s with plant := { s.plant with out := { s.plant.out with channels := s.plant.out.channels.set n d } } }
          .setChannel .supervisor q (.okWith (q ++ [d.state.code])))
        (c.enabled = false → en = 1 → s.pins.faultLow[n] = false → takes c')
        ∧ (c.enabled = false → en = 1 → s.pins.faultLow[n] = true →
            takes { c' with state := .faulted, applied := 0, target := 0, command := none, reportDue := false
                            phase := none, pulse := 0, tail := 0 })
        ∧ (c.enabled = true → en = 1 → takes c')
        ∧ (c.enabled = true → en = 0 → takes { c' with state := .off })
        ∧ (c.enabled = false → en = 0 → takes c')

/-- SET_TIMING is refused to a client, in RUN, of another length than two, or with a code that names no rate or
interval, in that order, and changes nothing. Accepted, it stores the two choices and answers with the frames per ramp
interval they give by the table of R103; the next frame start takes them and reloads the ramp counter (R101, R102,
R103). -/
def Obligations.SetTimingTakesEffectAtTheNextFrameStart : Prop :=
  ∀ s : State, s.inReset = false →
    let refused := fun (snd : Sender) (p : List Byte) (st : Status) =>
      exec (.setTiming snd p) s = .next (s.answered .setTiming snd p (.bare st))
    (∀ c p, (s.plant.client c).state ≠ .unset → refused (.client c) p .supervisorOnly)
    ∧ (∀ p, s.ctl.part = .run → refused .supervisor p .notSetup)
    ∧ (∀ p, s.ctl.part = .setup → p.length ≠ 2 → refused .supervisor p .badLength)
    ∧ (∀ r i : Byte, s.ctl.part = .setup → 2 < r.toNat ∨ 3 < i.toNat → refused .supervisor [r, i] .badField)
    ∧ ∀ x : Timing, s.ctl.part = .setup →
    let n := (match x.rate with | .khz16 => 16 | .khz4 => 4 | .khz1 => 1)
      * (match x.interval with | .ms1 => 1 | .ms2 => 2 | .ms4 => 4 | .ms8 => 8)
    let p : List Byte := [match x.rate with | .khz16 => 0 | .khz4 => 1 | .khz1 => 2,
      match x.interval with | .ms1 => 0 | .ms2 => 1 | .ms4 => 2 | .ms8 => 3]
    ∃ t, exec (.setTiming .supervisor p) s = .next t
      ∧ t = State.answered
          { s with plant := { s.plant with out := { s.plant.out with nextTiming := some x } } }
          .setTiming .supervisor p (.okWith (p ++ [byte n]))
      ∧ ∃ u, exec .frameStart t = .next u ∧ u.plant.out.timing = x ∧ u.plant.out.nextTiming = none
        ∧ u.plant.out.rampCounter = n

/-- CLEAR_FAULT of another length than one byte, then of a channel above 15, then of a disabled channel is refused and
changes nothing. On an enabled channel: a FAULTED one whose input is inactive becomes OFF; one whose input is active stays
and gives CHANNEL_FAULT; any other stays with OK. The reply names channel, state, input level and bound handle, and no
allotment changes (R126, R127). -/
def Obligations.ClearFaultClearsAnInactiveLatchOnly : Prop :=
  ∀ s : State, s.inReset = false →
    let refused := fun (q : List Byte) (st : Status) =>
      exec (.clearFault .supervisor q) s = .next (s.answered .clearFault .supervisor q (.bare st))
    (∀ q, q.length ≠ 1 → refused q .badLength)
    ∧ (∀ b : Byte, 15 < b.toNat → refused [b] .badField)
    ∧ ∀ n : ChannelIx,
    let c := s.plant.chan n
    let h := match s.plant.eng.binding[n] with | some h => [byte (h.slot.val + 1), h.generation] | none => [0, 0]
    (c.enabled = false → refused [byte n.val] .channelDisabled)
    ∧ (c.enabled = true →
      (c.state = .faulted → s.pins.faultLow[n] = false →
        exec (.clearFault .supervisor [byte n.val]) s = .next (State.answered
          { s with plant := { s.plant with out := { s.plant.out with channels := s.plant.out.channels.set n { c with
              state := .off, applied := 0, target := 0, command := none, reportDue := false, phase := none
              pulse := 0, tail := 0 } } } }
          .clearFault .supervisor [byte n.val] (.okWith ([byte n.val, 0, 0] ++ h))))
      ∧ (c.state = .faulted → s.pins.faultLow[n] = true →
        exec (.clearFault .supervisor [byte n.val]) s = .next (s.answered
          .clearFault .supervisor [byte n.val] ⟨.channelFault, [byte n.val, 4, 1] ++ h⟩))
      ∧ (c.state ≠ .faulted →
        exec (.clearFault .supervisor [byte n.val]) s = .next (s.answered
          .clearFault .supervisor [byte n.val]
          (.okWith ([byte n.val, c.state.code, flag s.pins.faultLow[n]] ++ h)))))

/-- A frame start acts on every channel: at a step frame start RISE and FALL move by one ramp step clamped at the target
and settle there into ON or, at 0, OFF out of the phase slot; a due report settles at any frame start; no other channel
moves. The pulse of the new frame takes the duty applied now, and the tail of a channel that still has a phase slot is
what the pulse before it runs past count 255. Each channel that settles makes one report, with its command identity,
behind those made before. The ramp counter goes down by one or is reloaded; engine, clients and every other block stay
(R99, R103, R104, R106, R107). Three points are the model's: a channel that settles to OFF has no tail from then on (log
entry 23, DEDUCED); every FALL channel steps by R104, a reduction victim's whose costs are equal by rounding too (log entry
27, DESIGN CHOICE); channels step at a step frame start that also takes a stored timing (log entry 15, DEDUCED). -/
def Obligations.FrameStartStepsSettlesAndReports : Prop :=
  ∀ s : State, s.inReset = false → (∀ n, (s.plant.chan n).shaped) →
    let o := s.plant.out
    let step : Bool := decide (o.rampCounter ≤ 1)
    let moved : Channel → Nat := fun c =>
      if step = true ∧ c.reportDue = false then
        match c.state with
        | .rise => min (c.applied + c.step) c.target
        | .fall => max (c.applied - c.step) c.target
        | .off | .on | .faulted => c.applied
      else c.applied
    let settles : Channel → Bool := fun c =>
      c.reportDue || (step && (c.state == .rise || c.state == .fall) && moved c == c.target)
    ∃ t, exec .frameStart s = .next t
      ∧ t = { s with plant := { s.plant with out := t.plant.out } }
      ∧ t.plant.out.frameCount = 0
      ∧ (o.nextTiming = none → t.plant.out.timing = o.timing
          ∧ t.plant.out.rampCounter = if step then o.timing.frames else o.rampCounter - 1)
      ∧ (∀ n, let c := s.plant.chan n
          let d := t.plant.chan n
          d.applied = moved c ∧ d.target = c.target ∧ d.command = c.command ∧ d.reportDue = false
          ∧ d.enabled = c.enabled ∧ d.rating = c.rating ∧ d.step = c.step
          ∧ d.state = (if settles c = true then (if 0 < c.target then .on else .off) else c.state)
          ∧ d.phase = (if settles c = true ∧ c.target = 0 then none else c.phase)
          ∧ d.pulse = (if d.phase.isSome = true then d.applied else 0)
          ∧ d.tail = (match d.phase with | none => 0 | some p => 32 * p.val + c.pulse - 256))
      ∧ t.plant.out.reports = o.reports
          ++ ((List.finRange 16).filter fun n => settles (s.plant.chan n)).map fun n =>
              { channel := n, command := (s.plant.chan n).command, applied := moved (s.plant.chan n) }

/-- The step frame start is the frame start at which the ramp counter reaches 0; STEP_FRAME_START lets the frame starts
before it pass (the model's reading of the row, log entry 3). FRAME_COUNT_ADVANCE adds one count, and after count 255 it
is a frame start (R99, R103). -/
def Obligations.CountsRunUpToTheFrameStart : Prop :=
  ∀ s : State, s.inReset = false →
    (s.plant.out.rampCounter ≤ 1 → ∃ t, exec .stepFrameStart s = .next t ∧ exec .frameStart s = .next t)
    ∧ (s.plant.out.nextTiming = none → 2 ≤ s.plant.out.rampCounter → s.plant.out.rampCounter ≤ 128 →
        ∃ t u, exec .stepFrameStart s = .next u ∧ exec .frameStart s = .next t ∧ exec .stepFrameStart t = .next u)
    ∧ (s.plant.out.frameCount < 255 → exec .frameCountAdvance s = .next
        { s with plant := { s.plant with out := { s.plant.out with frameCount := s.plant.out.frameCount + 1 } } })
    ∧ (s.plant.out.frameCount = 255 → exec .frameCountAdvance s = exec .frameStart s)

/-- A channel in RISE, ON or FALL has a phase slot; one that is OFF or FAULTED drives its gate low at every count. The
pulse of a channel is one unbroken on-time of the duty fixed at its frame start: in its own frame the gate is high from
count 32 times its slot, and what runs past count 255 continues from count 0 of the next frame, whatever duty `x` that
frame start applies; the tail ends before the next pulse begins (R100). -/
def Obligations.PulseIsOneUnbrokenOnTime : Prop :=
  (∀ c : Channel, c.shaped → (c.state = .rise ∨ c.state = .on ∨ c.state = .fall → c.phase.isSome = true)
    ∧ (c.state = .off ∨ c.state = .faulted → ∀ k, c.gateAt k = false))
  ∧ ∀ (c : Channel) (p : PhaseIx) (x k : Nat), c.phase = some p → c.applied ≤ 255 →
    (({ c.newPulse with applied := x } : Channel).newPulse.gateAt k = true ↔
      (32 * p.val ≤ k ∧ k < 32 * p.val + x) ∨ k + 256 < 32 * p.val + c.applied)
    ∧ (k + 256 < 32 * p.val + c.applied → k < 32 * p.val)

/-- A fault input that goes active latches an enabled channel that is not FAULTED, in any state, at once: FAULTED at 0,
no pulse, no phase slot, no command identity, no report due, and no report of it waiting (R72; log entry 13); on an unbound
channel nothing else changes. A disabled or FAULTED channel keeps its record. An input going inactive sets and clears nothing but its level (R96, R114 to R116). -/
def Obligations.FaultInputLatchesAnEnabledChannel : Prop :=
  ∀ (s : State) (n : ChannelIx), s.inReset = false →
    let c := s.plant.chan n
    let s' := { s with pins := { s.pins with faultLow := s.pins.faultLow.set n true } }
    (s.pins.faultLow[n] = false → c.enabled = true → c.state ≠ .faulted → s.plant.eng.binding[n] = none →
      exec (.faultInputActive n) s = .next { s' with plant := { s.plant with out := { s.plant.out with
        reports := s.plant.out.reports.filter fun r => r.channel ≠ n
        channels := s.plant.out.channels.set n { c with
          state := .faulted, applied := 0, target := 0, command := none, reportDue := false, phase := none
          pulse := 0, tail := 0 } } } })
    ∧ (s.pins.faultLow[n] = false → c.enabled = false ∨ c.state = .faulted → exec (.faultInputActive n) s = .next s')
    ∧ exec (.faultInputInactive n) s = .next
        { s with pins := { s.pins with faultLow := s.pins.faultLow.set n false } }

/-- A fault on a channel of an allotment trips it at once. Granted, or falling to RUNNING, REDUCED or WAITING: TRIPPED
with charge 0 and targets 0, out of grant list and queue, flag set, its other channels cut to OFF at 0 (R109) and its
reports discarded (R72); a pass or the stage's resolution follows, and nothing where the stage waits for another fall or nothing was given back (R115, R119,
R121). WAITING: TRIPPED out of the queue, and no pass. STAGED: TRIPPED, the stage empty, and a pass over the queue
(R118). FALLING to FREE: cut in the same way and its slot freed, owing nothing to the retired count (R120). TRIPPED:
unchanged (R116). The faulted channel is FAULTED in every case. Model's points: log entries 13 (the reports discarded in
the event), 14 (an OFF channel that is cut loses its command identity) and 17 (class and cost of a FREE record). -/
def Obligations.FaultTripsTheAllotmentAtOnce : Prop :=
  ∀ (s : State) (n : ChannelIx) (i : SlotIx), s.inReset = false → s.pins.faultLow[n] = false →
    (s.plant.chan n).enabled = true → (s.plant.chan n).state ≠ .faulted →
    s.plant.eng.binding[n] = some (s.plant.handleOf i) → s.plant.names i n →
    let a := s.plant.allot i
    let e := s.plant.eng
    let latch : Channel := { s.plant.chan n with
      state := .faulted, applied := 0, target := 0, command := none, reportDue := false, phase := none
      pulse := 0, tail := 0 }
    let latched := { s.plant.out with
      channels := s.plant.out.channels.set n latch, reports := s.plant.out.reports.filter fun r => r.channel ≠ n }
    let tripped := { a with state := .tripped, changed := true }
    let becomes := fun p : Plant => exec (.faultInputActive n) s = .next
      { s with plant := p, pins := { s.pins with faultLow := s.pins.faultLow.set n true } }
    let isCut := fun p : Plant => p.out = { s.plant.out with
        channels := p.out.channels
        reports := s.plant.out.reports.filter fun r => r.channel ∉ a.terms.map Term.channel }
      ∧ p.chan n = latch
      ∧ (∀ m, m ≠ n → s.plant.names i m → p.chan m = (let c := s.plant.chan m
          match c.state with
          | .rise | .on | .fall => { c with
              state := .off, applied := 0, target := 0, command := none, reportDue := false, phase := none
              pulse := 0, tail := 0 }
          | .off => { c with reportDue := false, command := none }
          | .faulted => c))
      ∧ (∀ m, ¬s.plant.names i m → p.chan m = s.plant.chan m)
    let follows := fun p : Plant => becomes (p.settleStage s.lim.effective (decide (p.eng.committed < e.committed)))
      ∧ (s.plant.stageWaits i → becomes p)
      ∧ (e.stage = none → a.charge = 0 → becomes p)
      ∧ (e.stage = none → p.eng.committed < e.committed →
          becomes (passWalk s.lim.effective .other p.eng.queue p))
    (a.state.granted = true → a.state ≠ .falling .free → ∃ p, isCut p ∧ follows p ∧ p.clients = s.plant.clients
      ∧ p.eng = { e with
          allots := e.allots.set i { tripped with
            terms := a.terms.map fun x => { x with target := 0 }, unsettled := [], charge := 0 }
          grants := e.grants.filter fun h => h.slot ≠ i
          queue := e.queue.filter fun h => h.slot ≠ i
          committed := e.committed - a.charge })
    ∧ (a.state = .waiting → becomes { s.plant with
        eng := { e with allots := e.allots.set i tripped, queue := e.queue.filter fun h => h.slot ≠ i }, out := latched })
    ∧ (a.state = .staged → becomes (passWalk s.lim.effective .other e.queue { s.plant with
        eng := { e with allots := e.allots.set i tripped, stage := none }, out := latched }))
    ∧ (a.state = .falling .free → ∀ c, a.owner = some c → ∃ p, isCut p ∧ follows p
      ∧ p.clients = s.plant.clients.set c { s.plant.client c with claimed := (s.plant.client c).claimed - a.requestCost }
      ∧ p.eng = { e with
          allots := e.allots.set i { a.asFree with generation := a.generation + 1 }
          binding := p.eng.binding
          grants := e.grants.filter fun h => h.slot ≠ i
          queue := e.queue.filter fun h => h.slot ≠ i
          committed := e.committed - a.charge }
      ∧ ∀ m, p.eng.binding[m] = if m ∈ a.terms.map Term.channel then none else e.binding[m])
    ∧ (a.state = .tripped → becomes { s.plant with out := latched })

/-! ### The limit unit (chapter 2) -/

/-- SET_LIMITS is refused to a client, of another length than five, or with a ceiling above 4095, in that order, and
changes nothing. Accepted, it stores the two ceilings and the hold, keeps derate state and hold timer, and gives the
effective ceiling the value of R26. A ceiling that falls below the committed charge brings the hard cut in the same
event; one that rises with the stage empty a pass over the queue; one that rises with the stage occupied, or stays at or
above the committed charge, changes no allotment; the reply shows the figures after the event (R26, R31, R32, R36). -/
def Obligations.SetLimitsStoresAndRecomputesTheCeiling : Prop :=
  ∀ (s : State) (ch cl dh dl hold : Byte), s.inReset = false →
    let p := [ch, cl, dh, dl, hold]
    let conf := 256 * ch.toNat + cl.toNat
    let der := 256 * dh.toNat + dl.toNat
    let refused := fun (snd : Sender) (q : List Byte) (st : Status) =>
      exec (.setLimits snd q) s = .next (s.answered .setLimits snd q (.bare st))
    (∀ c q, (s.plant.client c).state ≠ .unset → refused (.client c) q .supervisorOnly)
    ∧ (∀ q, q.length ≠ 5 → refused .supervisor q .badLength)
    ∧ (4095 < conf ∨ 4095 < der → refused .supervisor p .badField)
    ∧ (conf ≤ 4095 → der ≤ 4095 →
    let eff := match s.ctl.part, s.lim.derate with
      | .setup, _ => 0
      | .run, .normal => conf
      | .run, _ => min conf der
    let lim := { s.lim with configured := conf, derated := der, hold := hold.toNat, effective := eff }
    let takes := fun q : Plant => exec (.setLimits .supervisor p) s = .next (State.answered
      { s with lim := lim, plant := q } .setLimits .supervisor p
      (.okWith ([ch, cl, dh, dl, hold, match s.lim.derate with | .normal => 0 | .derated => 1 | .holding => 2] ++ word eff ++ word q.eng.committed)))
    ((eff ≤ s.lim.effective → s.plant.eng.committed ≤ eff ∨ eff = s.lim.effective) →
      takes (if s.lim.effective < eff ∧ s.plant.eng.stage = none then
        passWalk eff .other s.plant.eng.queue s.plant else s.plant))
    ∧ (eff < s.lim.effective → eff < s.plant.eng.committed → takes (s.plant.hardCut eff)))

/-- The three events of the derate state with a ceiling they do not move below the committed charge, or in SETUP. A fall
from NORMAL derates; a fall from HOLDING cancels the timer with no report; a rise in DERATED starts the hold of
hold x 10 ms with no report, or with a hold of 0 returns to NORMAL; the hold's expiry returns to NORMAL. From HOLDING or
DERATED to NORMAL the ceiling is the configured one in RUN; a ceiling that rises with the stage empty brings a pass over
the queue, and otherwise no allotment changes (R27 to R29, R36). -/
def Obligations.DerateStateFollowsThePin : Prop :=
  ∀ s : State, s.inReset = false → s.ceilingSound →
    let eff := fun d : DerateState => { s.lim with derate := d }.effectiveFor s.ctl.part
    let calm := fun d : DerateState => eff d ≤ s.lim.effective → s.plant.eng.committed ≤ eff d ∨ eff d = s.lim.effective
    let plant := fun d : DerateState => if s.lim.effective < eff d ∧ s.plant.eng.stage = none then
      passWalk (eff d) .other s.plant.eng.queue s.plant else s.plant
    (s.pins.derateLow = false → s.lim.derate = .normal → calm .derated →
      exec .deratenFalls s = .next { s with
        plant := plant .derated, pins := { s.pins with derateLow := true }
        lim := { s.lim with derate := .derated, effective := eff .derated } })
    ∧ (s.pins.derateLow = false → s.lim.derate = .holding →
      exec .deratenFalls s = .next { s with
        pins := { s.pins with derateLow := true }, lim := { s.lim with derate := .derated, holdTimer := none } })
    ∧ (s.pins.derateLow = true → s.lim.derate = .derated → 0 < s.lim.hold →
      exec .deratenRises s = .next { s with
        pins := { s.pins with derateLow := false }
        lim := { s.lim with derate := .holding, holdTimer := some (10 * s.lim.hold) } })
    ∧ (s.pins.derateLow = true → s.lim.derate = .derated → s.lim.hold = 0 → calm .normal →
      exec .deratenRises s = .next { s with
        plant := plant .normal, pins := { s.pins with derateLow := false }
        lim := { s.lim with derate := .normal, holdTimer := none, effective := eff .normal } })
    ∧ (s.lim.derate = .holding → calm .normal →
      exec .holdExpiry s = .next { s with
        plant := plant .normal
        lim := { s.lim with derate := .normal, holdTimer := none, effective := eff .normal } })

/-- A fall of DERATEn that takes the ceiling below the committed charge cuts allotments in that event, one after another:
FALLING ones first, the later admitted first, then RISING, RUNNING and REDUCED ones in victim order; it stops with the
first cut after which the committed charge is within the ceiling (R27, R37). Each cut takes the channels to 0 at once
and gives the whole charge back; one FALLING to FREE is freed, and not retired again, and every other waits at the front
of its rank, the one cut last ahead, with its flag set (R38). What follows is the stage's resolution or a pass (R39). Model's
points: a cut discards the reports of its channels in the event, where R72 discards them on arrival (log entry 13,
DEDUCED); a cut channel that was OFF loses its command identity by the table of 5.1, which R109 does not name (log entry
14, DEDUCED); the class and cost of a FREE record (log entry 17, DESIGN CHOICE). -/
def Obligations.HardCutStopsWithinTheCeiling : Prop :=
  ∀ s : State, s.inReset = false → s.pins.derateLow = false → s.lim.derate = .normal → s.ceilingSound →
    s.plant.accountsAgree → s.plant.listsExact → s.plant.chargeLaw →
    let eff := { s.lim with derate := .derated }.effectiveFor s.ctl.part
    eff < s.plant.eng.committed → eff < s.lim.effective →
    let e := s.plant.eng
    let charge := fun x : Handle => (s.plant.allot x.slot).charge
    ∃ (t : State) (taken : List Handle) (p : Plant), exec .deratenFalls s = .next t
      ∧ t = { s with plant := t.plant, pins := { s.pins with derateLow := true }
                     lim := { s.lim with derate := .derated, effective := eff } }
      ∧ t.plant = p.settleStage eff true
      ∧ p = taken.foldl (fun q h => q.hardCutOne h.slot) s.plant
      ∧ takenInOrder s.plant.cutBefore (fun x => x ∈ e.grants) charge (e.committed - eff) taken
      ∧ p.eng.committed = e.committed - (taken.map charge).sum ∧ p.eng.committed ≤ eff
      ∧ (∀ pre, pre <+: taken → pre ≠ taken →
          eff < (pre.foldl (fun q h => q.hardCutOne h.slot) s.plant).eng.committed)
      ∧ (∀ j, j ∉ taken.map Handle.slot → p.allot j = s.plant.allot j)
      ∧ (∀ x ∈ taken, let a := s.plant.allot x.slot
          p.allot x.slot = if a.state = .falling .free then { a.asFree with generation := a.generation + 1 }
            else { a with terms := a.terms.map fun u => { u with target := 0 }, unsettled := [], charge := 0
                          state := .waiting, changed := true })
      ∧ p.eng.grants = e.grants.filter (fun x => x ∉ taken) ∧ p.eng.stage = e.stage ∧ p.eng.levels = e.levels
      ∧ (s.plant.queueOrdered → p.queueOrdered ∧ ∀ k : ClassIx,
          (p.eng.queue.filter fun x => s.plant.classOf x = k)
            = (taken.reverse.filter fun x => (s.plant.allot x.slot).state ≠ .falling .free ∧ s.plant.classOf x = k)
              ++ e.queue.filter fun x => x ∉ taken ∧ s.plant.classOf x = k)
      ∧ (∀ n : ChannelIx, p.eng.binding[n] =
          if ∃ x ∈ taken, (s.plant.allot x.slot).state = .falling .free ∧ n ∈ (s.plant.allot x.slot).terms.map Term.channel
          then none else e.binding[n])
      ∧ p.out = { s.plant.out with
          channels := p.out.channels
          reports := s.plant.out.reports.filter fun r =>
            ¬∃ x ∈ taken, r.channel ∈ (s.plant.allot x.slot).terms.map Term.channel }
      ∧ (∀ n, let c := s.plant.chan n
          p.chan n = if ∃ x ∈ taken, n ∈ (s.plant.allot x.slot).terms.map Term.channel then
            (match c.state with
              | .rise | .on | .fall => { c with
                  state := .off, applied := 0, target := 0, command := none, reportDue := false, phase := none
                  pulse := 0, tail := 0 }
              | .off => { c with reportDue := false, command := none }
              | .faulted => c)
            else c)
      ∧ ∀ c, p.client c = { s.plant.client c with claimed := (s.plant.client c).claimed
          - ((taken.filter fun x => (s.plant.allot x.slot).state = .falling .free
              ∧ (s.plant.allot x.slot).owner = some c).map fun x => (s.plant.allot x.slot).requestCost).sum }

/-- A ceiling raised by the hold's expiry with the stage empty brings a pass over the queue (R29, R52, R53). The pass
examines each entry once, from the head: a REDUCED entry is topped up where the difference of its costs is within
available, and passed over otherwise (R54); a WAITING entry above the effective ceiling is passed over (R55), one within
available is granted, at the back of the grant list (R56), and at any other the walk ends, the entry staged by its plan
or left where none can be made (R61, R62). A grant and a top-up leave the queue, rise toward the requested duties with
one transition command, and set the changed flag but in the owner's own request for the allotment (R57). -/
def Obligations.AdmissionPassWalksTheQueue : Prop :=
  (∀ s : State, s.inReset = false → s.lim.derate = .holding → s.plant.eng.stage = none →
    let eff := { s.lim with derate := .normal }.effectiveFor s.ctl.part
    s.lim.effective < eff →
    exec .holdExpiry s = .next { s with
      lim := { s.lim with derate := .normal, holdTimer := none, effective := eff }
      plant := passWalk eff .other s.plant.eng.queue s.plant })
  ∧ ∀ (eff : Nat) (o : Origin) (p : Plant) (h : Handle) (rest : List Handle),
    let a := p.allot h.slot
    let rises := fun grants : List Handle => ({ p with
      eng := { p.eng with
        allots := p.eng.allots.set h.slot { a with
          terms := a.terms.map fun x => { x with target := x.requested }, state := .rising
          charge := p.transitionCharge a.terms (·.requested)
          commandId := a.commandId + 1, unsettled := a.terms.map Term.channel
          changed := match o with
            | .other => true
            | .owner j => if j = h.slot then a.changed else true
            | .ownerAll c => if a.owner = some c then a.changed else true }
        queue := p.eng.queue.filter fun x => x.slot ≠ h.slot
        grants := grants
        committed := p.eng.committed - a.charge + p.transitionCharge a.terms (·.requested) }
      out := p.out.command a.terms (·.requested) (a.commandId + 1) } : Plant)
    passWalk eff o [] p = p
    ∧ (a.state = .reduced → p.eng.committed + (a.requestCost - a.floorCost) ≤ eff →
      passWalk eff o (h :: rest) p = passWalk eff o rest (rises p.eng.grants))
    ∧ (a.state = .reduced → eff < p.eng.committed + (a.requestCost - a.floorCost) →
      passWalk eff o (h :: rest) p = passWalk eff o rest p)
    ∧ (a.state = .waiting → eff < a.requestCost → passWalk eff o (h :: rest) p = passWalk eff o rest p)
    ∧ (a.state = .waiting → a.requestCost ≤ eff → p.eng.committed + a.requestCost ≤ eff →
      passWalk eff o (h :: rest) p = passWalk eff o rest (rises (p.eng.grants ++ [p.handleOf h.slot])))
    ∧ (a.state = .waiting → a.requestCost ≤ eff → eff < p.eng.committed + a.requestCost →
      (p.plan eff o h.slot = none ∧ passWalk eff o (h :: rest) p = p)
      ∨ ∃ q, p.plan eff o h.slot = some q ∧ passWalk eff o (h :: rest) p = q
          ∧ q.eng.stage = some (p.handleOf h.slot) ∧ (q.allot h.slot).state = .staged
          ∧ (q.allot h.slot).charge = 0)

/-! ### Settling and run limits (chapter 4) -/

/-- The report that empties the unsettled set of a RISING allotment settles it into RUNNING at its request cost, flag
set; where that lowers the committed charge with the stage empty a pass over the queue follows, and none otherwise. With
channels still unsettled the report only leaves the set; a report with another identity, or for an allotment neither RISING
nor FALLING, or for an unbound channel, is discarded (R72, R73). The reports made and not yet taken stand in a list (log
entry 13, DEDUCED). -/
def Obligations.SettledReportOfARiseEndsInRunning : Prop :=
  ∀ (s : State) (n : ChannelIx) (i : SlotIx) (r : Report), s.inReset = false →
    (s.plant.out.reports.find? fun x => x.channel == n) = some r →
    let a := s.plant.allot i
    let out := { s.plant.out with reports := s.plant.out.reports.eraseP fun x => x.channel == n }
    (s.plant.eng.binding[n] = some (s.plant.handleOf i) → a.state = .rising → r.command = some a.commandId →
      a.unsettled = [n] →
      let p : Plant := { s.plant with out := out, eng := { s.plant.eng with
        allots := s.plant.eng.allots.set i { a with
          unsettled := [], state := .running, charge := a.requestCost, changed := true }
        committed := s.plant.eng.committed - a.charge + a.requestCost } }
      exec (.settledReport n) s = .next { s with
        plant := if s.plant.eng.stage = none ∧ p.eng.committed < s.plant.eng.committed then
          passWalk s.lim.effective .other p.eng.queue p else p })
    ∧ (s.plant.eng.binding[n] = some (s.plant.handleOf i) → a.state = .rising ∨ a.state.outcome?.isSome = true →
      r.command = some a.commandId → n ∈ a.unsettled → a.unsettled.erase n ≠ [] →
      exec (.settledReport n) s = .next { s with plant := { s.plant with out := out, eng := { s.plant.eng with
        allots := s.plant.eng.allots.set i { a with unsettled := a.unsettled.erase n } } } })
    ∧ ((s.plant.eng.binding[n] = none ∨ (s.plant.eng.binding[n] = some (s.plant.handleOf i)
        ∧ (r.command ≠ some a.commandId ∨ (a.state ≠ .rising ∧ a.state.outcome? = none)))) →
      exec (.settledReport n) s = .next { s with plant := { s.plant with out := out } })

/-- The report that empties the unsettled set of a FALLING allotment ends the fall in the state its outcome names:
RUNNING at the request cost, REDUCED at the floor cost at the back of its rank, WAITING with charge 0 at the front of its
rank and out of the grant list, flag set; FREE frees the slot (R46, R47, R50, R74). While the stage waits for another
fall nothing else happens (R63). With the stage empty a pass over the queue follows where an entry joined it or the
committed charge fell. The last fall resolves an occupied stage in the same event: where its request cost is within
available the staged allotment rises, at the back of the grant list, and otherwise it waits at the front of its rank; the
stage empties, the flag is set, and a pass over the queue follows (R64, R65). The reports made and not yet taken stand in a
list (log entry 13, DEDUCED); the class and cost of a FREE record are the model's (log entry 17, DESIGN CHOICE). -/
def Obligations.SettledReportOfAFallEndsInItsOutcome : Prop :=
  ∀ (s : State) (n : ChannelIx) (i : SlotIx) (r : Report), s.inReset = false →
    (s.plant.out.reports.find? fun x => x.channel == n) = some r →
    s.plant.eng.binding[n] = some (s.plant.handleOf i) → r.command = some (s.plant.allot i).commandId →
    (s.plant.allot i).unsettled = [n] →
    let a := s.plant.allot i
    let e := s.plant.eng
    let eff := s.lim.effective
    let out := { s.plant.out with reports := s.plant.out.reports.eraseP fun x => x.channel == n }
    let becomes := fun p : Plant => exec (.settledReport n) s = .next { s with plant := p }
    let follows := fun (p : Plant) (queued : Bool) =>
      (s.plant.stageWaits i → becomes p)
      ∧ (e.stage = none → becomes (if queued = true ∨ p.eng.committed < e.committed then
          passWalk eff .other p.eng.queue p else p))
      ∧ ∀ h, e.stage = some h → h.slot ≠ i → (∀ j, j ≠ i → (s.plant.allot j).state.outcome? = none) →
        let b := p.allot h.slot
        let charge := p.transitionCharge b.terms (·.requested)
        let risen : Plant := { p with
          eng := { p.eng with
            allots := p.eng.allots.set h.slot { b with
              terms := b.terms.map fun x => { x with target := x.requested }, state := .rising, charge := charge
              changed := true, commandId := b.commandId + 1, unsettled := b.terms.map Term.channel }
            stage := none, grants := p.eng.grants ++ [p.handleOf h.slot]
            committed := p.eng.committed - b.charge + charge }
          out := p.out.command b.terms (·.requested) (b.commandId + 1) }
        let returned : Plant := { p with eng := { p.eng with
            allots := p.eng.allots.set h.slot { b with state := .waiting, changed := true }
            stage := none, queue := placeFront p b.cls (p.handleOf h.slot) p.eng.queue } }
        (p.eng.committed + b.requestCost ≤ eff → becomes (passWalk eff .other risen.eng.queue risen))
        ∧ (eff < p.eng.committed + b.requestCost → becomes (passWalk eff .other returned.eng.queue returned)
          ∧ (p.queueOrdered → p.queuedAtFront b.cls (p.handleOf h.slot) p.eng.queue returned.eng.queue))
    let ends := fun (st : AllotState) (charge : Nat) (queue grants : List Handle) (queued : Bool) =>
      follows { s.plant with out := out, eng := { e with
        allots := e.allots.set i { a with unsettled := [], state := st, charge := charge, changed := true }
        queue := queue, grants := grants
        committed := e.committed - a.charge + charge } } queued
    (a.state = .falling .running → ends .running a.requestCost e.queue e.grants false)
    ∧ (a.state = .falling .reduced →
        ends .reduced a.floorCost (placeBack s.plant a.cls (s.plant.handleOf i) e.queue) e.grants true
        ∧ (s.plant.queueOrdered → s.plant.queuedAtBack a.cls (s.plant.handleOf i) e.queue
            (placeBack s.plant a.cls (s.plant.handleOf i) e.queue)))
    ∧ (a.state = .falling .waiting →
        ends .waiting 0 (placeFront s.plant a.cls (s.plant.handleOf i) e.queue)
          (e.grants.filter fun h => h.slot ≠ i) true
        ∧ (s.plant.queueOrdered → s.plant.queuedAtFront a.cls (s.plant.handleOf i) e.queue
            (placeFront s.plant a.cls (s.plant.handleOf i) e.queue)))
    ∧ (a.state = .falling .free → ∃ p : Plant, follows p false ∧ p.out = out
        ∧ p.eng = { e with
            allots := e.allots.set i { a.asFree with generation := a.generation + 1 }
            binding := p.eng.binding
            grants := e.grants.filter fun h => h.slot ≠ i
            committed := e.committed - a.charge }
        ∧ (∀ m, p.eng.binding[m] = if m ∈ a.terms.map Term.channel then none else e.binding[m])
        ∧ (∀ c, a.owner = some c → p.clients = s.plant.clients.set c
            { s.plant.client c with claimed := (s.plant.client c).claimed - a.requestCost })
        ∧ (a.owner = none → p.clients = s.plant.clients))

/-- A counting tenth takes one from the remaining run time; the tenth that brings it to 0, and RUN_LIMIT_EXPIRY (the
tenths before it having passed, log entry 3), end the grant: a fall to FREE from the duties applied now, flag set, the
owner's retired count up by one; where that lowers the committed charge with the stage empty a pass over the queue follows.
A paused timer counts nothing (R76 to R78). -/
def Obligations.RunLimitCountsDownAndEndsTheGrant : Prop :=
  ∀ (s : State) (i : SlotIx) (r : RunTimer), s.inReset = false → (s.plant.allot i).run = some r →
    let a := s.plant.allot i
    let counting := a.state = .rising ∨ a.state = .running ∨ a.state = .reduced
    (counting → 2 ≤ r.remaining → exec (.runTimerTenth i) s = .next { s with plant := { s.plant with
      eng := { s.plant.eng with allots := s.plant.eng.allots.set i { a with
        run := some { r with remaining := r.remaining - 1, counted := 0 } } } } })
    ∧ (¬counting → exec (.runTimerTenth i) s = .next s ∧ exec (.runLimitExpiry i) s = .next s)
    ∧ (∀ c, counting → a.owner = some c →
      ∀ cmd, cmd = .runLimitExpiry i ∨ (cmd = .runTimerTenth i ∧ r.remaining ≤ 1) →
      let p : Plant :=
        { eng := { s.plant.eng with
            allots := s.plant.eng.allots.set i { a with
              terms := a.terms.map fun x => { x with target := 0 }, state := .falling .free
              charge := s.plant.transitionCharge a.terms fun _ => 0, changed := true
              run := some { r with remaining := 0, counted := 0 }
              commandId := a.commandId + 1, unsettled := a.terms.map Term.channel }
            queue := s.plant.eng.queue.filter fun h => h.slot ≠ i
            committed := s.plant.eng.committed - a.charge + s.plant.transitionCharge a.terms fun _ => 0 }
          out := s.plant.out.command a.terms (fun _ => 0) (a.commandId + 1)
          clients := s.plant.clients.set c { s.plant.client c with
            retired := min 255 ((s.plant.client c).retired + 1) } }
      exec cmd s = .next { s with
        plant := if s.plant.eng.stage = none ∧ p.eng.committed < s.plant.eng.committed then
          passWalk s.lim.effective .other p.eng.queue p else p })

/-! ### The control unit (chapter 9) -/

/-- COMMIT from a quiet SETUP sets RUN and the effective ceiling of R26 and changes nothing else; its reply counts
enabled and FAULTED channels and client slots not UNSET. RESTART changes nothing but restart pending, and answers with
the part state. Either with a payload is refused, COMMIT after the test of the part state (R168, R173). -/
def Obligations.CommitOpensRunAndRestartOnlyPends : Prop :=
  ∀ s : State, s.inReset = false →
    (∀ q, q ≠ [] → (s.ctl.part = .setup →
        exec (.commit .supervisor q) s = .next (s.answered .commit .supervisor q (.bare .badLength)))
      ∧ exec (.restart .supervisor q) s = .next (s.answered .restart .supervisor q (.bare .badLength)))
    ∧ (s.ctl.part = .setup → s.outputsSound →
      let eff := s.lim.effectiveFor .run
      let derate : Byte := match s.lim.derate with | .normal => 0 | .derated => 1 | .holding => 2
      let enabled := (List.finRange 16).filter fun n => (s.plant.chan n).enabled
      exec (.commit .supervisor []) s = .next (State.answered
        { s with ctl := { s.ctl with part := .run }, lim := { s.lim with effective := eff } } .commit .supervisor []
        (.okWith ([1, derate] ++ word eff
          ++ [byte enabled.length, byte (enabled.filter fun n => (s.plant.chan n).state = .faulted).length,
              byte ((List.finRange 8).filter fun c => (s.plant.client c).state ≠ .unset).length]))))
    ∧ exec (.restart .supervisor []) s = .next (State.answered
        { s with ctl := { s.ctl with restartPending := true } } .restart .supervisor []
        (.okWith [match s.ctl.part with | .setup => 0 | .run => 1]))

/-- HALT is refused to a client, in SETUP, and with a payload, in that order. Accepted, it frees every allotment,
advancing the generation of each slot it frees, cuts every channel, empties queue, grant list and stage, sets committed
charge and effective ceiling to 0 and the part to SETUP; each allotment not already FALLING/FREE adds one to its owner's
retired count, up to 255, and every claimed total ends at 0; levels, timing, ceilings, derate state and the rest of the
client records stay (R170, R171). A settled report made before is discarded (R172). Model's points: it is so in the event,
where R72 discards it on arrival (log entry 13, DEDUCED); a cut OFF channel loses its command identity by the table of 5.1,
which R109 does not name (log entry 14, DEDUCED); the class and cost of a FREE record (log entry 17, DESIGN CHOICE). -/
def Obligations.HaltFreesEverythingAndReturnsToSetup : Prop :=
  ∀ s : State, s.inReset = false →
    let refused := fun (snd : Sender) (p : List Byte) (st : Status) =>
      exec (.halt snd p) s = .next (s.answered .halt snd p (.bare st))
    (∀ c p, (s.plant.client c).state ≠ .unset → refused (.client c) p .supervisorOnly)
    ∧ (∀ p, s.ctl.part = .setup → refused .supervisor p .notRunning)
    ∧ (∀ p, s.ctl.part = .run → p ≠ [] → refused .supervisor p .badLength)
    ∧ (s.ctl.part = .run → s.plant.claimedLaw → ∃ t, exec (.halt .supervisor []) s = .next t
      ∧ t = State.answered { s with
          plant := t.plant, ctl := { s.ctl with part := .setup }, lim := { s.lim with effective := 0 } }
          .halt .supervisor [] (.okWith [0, byte s.plant.inUse.length,
            byte (s.plant.inUse.filter fun i => (s.plant.allot i).state ≠ .falling .free).length])
      ∧ (∀ i, t.plant.allot i = { (s.plant.allot i).asFree with
          generation := (s.plant.allot i).generation + if (s.plant.allot i).state = .free then 0 else 1 })
      ∧ t.plant.eng.queue = [] ∧ t.plant.eng.grants = [] ∧ t.plant.eng.stage = none ∧ t.plant.eng.committed = 0
      ∧ t.plant.eng.levels = s.plant.eng.levels
      ∧ (∀ i n, (s.plant.allot i).state ≠ .free → s.plant.names i n → t.plant.eng.binding[n] = none)
      ∧ (∀ n, (∀ i, (s.plant.allot i).state ≠ .free → ¬s.plant.names i n) →
          t.plant.eng.binding[n] = s.plant.eng.binding[n])
      ∧ t.plant.out = { s.plant.out with channels := t.plant.out.channels, reports := [] }
      ∧ (∀ n, t.plant.chan n = (let c := s.plant.chan n
          match c.state with
          | .rise | .on | .fall => { c with
              state := .off, applied := 0, target := 0, command := none, reportDue := false, phase := none
              pulse := 0, tail := 0 }
          | .off => { c with reportDue := false, command := none }
          | .faulted => c))
      ∧ ((∀ n, (s.plant.chan n).shaped) → ∀ p, t.plant.out.load p = 0)
      ∧ ∀ c, t.plant.client c = { s.plant.client c with
          claimed := 0
          retired := if ((s.plant.ownedBy c).filter fun i => (s.plant.allot i).state ≠ .falling .free) = [] then
              (s.plant.client c).retired
            else min 255 ((s.plant.client c).retired
              + ((s.plant.ownedBy c).filter fun i => (s.plant.allot i).state ≠ .falling .free).length) })

/-! ### The exchange port (chapter 8) -/

/-- The write phase: START with the own address empties the buffer, clears the mark, starts the timer at 50 ms and
enters RX, the address byte held while a frame is still being handled; in RX the first 24 bytes are stored and
acknowledged, and every further byte is neither, and sets the mark (R148). That the port state is RX while the address byte
is held is the model's reading (log entry 24, DEDUCED). -/
def Obligations.WritePhaseStoresTwentyFourBytes : Prop :=
  ∀ s : State, s.inReset = false →
    (s.port.state = .idle → ∃ t, exec .startOwnWrite s = .next t ∧ t = { s with port := t.port }
      ∧ t.port.state = .rx ∧ t.port.buffer = [] ∧ t.port.overLength = false ∧ t.port.timer = some 50
      ∧ t.port.sclLow = s.port.handling ∧ t.port.acked = !s.port.handling
      ∧ t.port.handling = s.port.handling ∧ t.port.supervisorSlot = s.port.supervisorSlot
      ∧ t.port.clientSlots = s.port.clientSlots)
    ∧ (s.port.state = .rx → s.port.held = none → ∀ b : Byte,
      (s.port.buffer.length < 24 → s.port.overLength = false → exec (.writeByte b) s = .next
        { s with port := { s.port with buffer := s.port.buffer ++ [b], acked := true } })
      ∧ (24 ≤ s.port.buffer.length ∨ s.port.overLength = true → exec (.writeByte b) s = .next
        { s with port := { s.port with overLength := true, acked := false } }))

/-- The end of a write phase, however it ends. A frame passes with 5 bytes or more, as many as its length byte gives, no
over-length mark and its CRC last; else it is answered CHECK_FAIL and touches nothing. Its id names the supervisor or the
client of a slot not UNSET, else NOT_CLIENT. The window of an ACTIVE client restarts, and then: a repeat is answered with
the stored reply, the same number with other bytes with SEQ_REUSE, a code not of 10.2 with UNKNOWN_REQUEST, which alone is
kept; a known request goes to its owning block (R131, R149, R150, R154, R156 to R158). A repeated START that reads sends
the reply, or waits for it in EXEC with SCL low; one that writes begins a write phase, its address byte held while the
frame is being handled; STOP and another address take the port to IDLE, the other address unacknowledged (R148 to R150).
The owning block's return becomes the reply, laid out as 10.1 and with the codes of 10.5, and kept in the sender's reply
slot; REPLY_IN_HAND then ends handling: from EXEC the port sends the reply, elsewhere it is not sent, and a held write
address byte is acknowledged and RX goes on (R148, R150, R159, R160, R163). The port state while an address byte is held
is the model's reading (log entry 24, DEDUCED); that a reply not sent leaves the reply in hand empty is its choice (log
entry 29, DESIGN CHOICE). -/
def Obligations.FrameIsCheckedDispatchedAndAnswered : Prop :=
  (∀ (s : State) (e : PhaseEnd), s.inReset = false → s.port.state = .rx → s.port.held = none →
    let f := s.port.buffer
    let passes := 5 ≤ f.length ∧ f.length = 5 + (f.getD 3 0).toNat ∧ s.port.overLength = false
      ∧ f.getD (f.length - 1) 0 = crc8 (f.take (f.length - 1))
    let holdsId := fun c : ClientIx => (s.plant.client c).state ≠ .unset ∧ (s.plant.client c).id = some (f.getD 0 0)
    let bare := fun st : Byte => [f.getD 1 0, st, 0, crc8 [f.getD 1 0, st, 0]]
    let leaves := fun t : Port => match e with
      | .restartRead => t
      | .restartWrite => { t with
          state := .rx, buffer := [], overLength := false, inHand := none, position := 0, stopped := false
          timer := some 50, held := if t.handling = true then some .write else none, acked := !t.handling }
      | .restartOther => { t with
          state := .idle, timer := none, inHand := none, position := 0, stopped := false, held := none, acked := false }
      | .stop => { t with
          state := .idle, timer := none, inHand := none, position := 0, stopped := false, held := none }
    let sent := fun (p : Plant) (t : Port) (reply : List Byte) => exec (.writePhaseEnd e) s = .next
      { s with plant := p, port := if e = .restartRead then { t with
          state := .tx, inHand := some reply, position := 0, stopped := false, acked := true } else leaves t }
    (¬passes → sent s.plant s.port (bare 0x01))
    ∧ (passes → f.getD 0 0 ≠ 0 → (∀ c, ¬holdsId c) → sent s.plant s.port (bare 0x05))
    ∧ ∀ snd : Sender, passes → (match snd with
        | .supervisor => f.getD 0 0 = 0
        | .client c => f.getD 0 0 ≠ 0 ∧ holdsId c ∧ ∀ d < c, ¬holdsId d) →
      let p := match snd with
        | .supervisor => s.plant
        | .client c => if (s.plant.client c).state = .active ∧ 0 < (s.plant.client c).window then
            { s.plant with clients := s.plant.clients.set c { s.plant.client c with
                timer := some (100 * (s.plant.client c).window) } } else s.plant
      let slot := match snd with
        | .supervisor => s.port.supervisorSlot
        | .client c => s.port.clientSlots[c]
      let kept := some { sequence := f.getD 1 0, request := f, reply := bare 0x03 : ReplySlot }
      (∀ x, slot = some x → x.sequence = f.getD 1 0 → x.request = f → sent p s.port x.reply)
      ∧ (∀ x, slot = some x → x.sequence = f.getD 1 0 → x.request ≠ f → sent p s.port (bare 0x06))
      ∧ ((∀ x ∈ slot, x.sequence ≠ f.getD 1 0) →
        let codes : List (Byte × Request) :=
          [(0x01, .claim), (0x02, .query), (0x03, .reshape), (0x04, .release), (0x05, .retry), (0x06, .scan),
           (0x10, .join), (0x11, .leave), (0x12, .ping), (0x13, .setClient), (0x20, .setChannel), (0x21, .setTiming),
           (0x22, .clearFault), (0x28, .setLimits), (0x29, .setClasses), (0x30, .commit), (0x31, .halt),
           (0x32, .restart)]
        (f.getD 2 0 ∉ codes.map Prod.fst → sent p (match snd with
            | .supervisor => { s.port with supervisorSlot := kept }
            | .client c => { s.port with clientSlots := s.port.clientSlots.set c kept }) (bare 0x03))
        ∧ (∀ r, (f.getD 2 0, r) ∈ codes →
          let t : Port := { s.port with
            handling := true
            handed := some { sender := snd, request := r, payload := (f.drop 4).take (f.getD 3 0).toNat
                             sequence := f.getD 1 0, frame := f } }
          exec (.writePhaseEnd e) s = .next { s with
            plant := p
            port := if e = .restartRead then { t with state := .exec, acked := true } else leaves t })))
  ∧ (∀ (s : State) (h : Handed) (b : BlockReply), s.inReset = false → s.port.handed = some h →
    let front := [h.sequence, b.status.code, byte b.payload.length] ++ b.payload
    let reply := front ++ [crc8 front]
    ∃ t, t = s.answered h.request h.sender h.payload b
      ∧ t.port.slotOf h.sender = some { sequence := h.frame.getD 1 0, request := h.frame, reply := reply }
      ∧ (∀ x, x ≠ h.sender → t.port.slotOf x = s.port.slotOf x)
      ∧ t.port.built = some reply ∧ t.port.handed = none
      ∧ (s.port.state = .exec → exec .replyInHand t = .next { t with port := { t.port with
          state := .tx, inHand := some reply, position := 0, stopped := false
          acked := true, handling := false, built := none } })
      ∧ (s.port.state ≠ .exec → s.port.held ≠ some .read → ¬(t.port.restartReply = true ∧ t.ctl.restartPending = true) →
        exec .replyInHand t = .next { t with port := { t.port with
          handling := false, built := none, held := none
          acked := if s.port.held = some .write then true else t.port.acked } }))
  ∧ [Status.ok, .checkFail, .badLength, .unknownRequest, .badField, .notClient, .seqReuse, .supervisorOnly, .clientOnly,
      .notJoined, .lapsed, .notRunning, .notSetup, .staleHandle, .notOwner, .wrongState, .tableFull, .channelHeld,
      .channelDisabled, .channelFault, .overQuota, .overCeiling, .noRoom, .quotaInUse].map Status.code
    = [0x00, 0x01, 0x02, 0x03, 0x04, 0x05, 0x06, 0x07, 0x08, 0x09, 0x0A, 0x0B, 0x0C, 0x0D, 0x0E, 0x0F, 0x10, 0x11, 0x12,
       0x13, 0x14, 0x15, 0x16, 0x17]

/-- Reading: each ACK moves to the next byte and, past the last, to the filler FFh for as long as the master acknowledges;
a NACK stops the sending and keeps the phase open (R151). The end of the phase takes the port to IDLE without a timer (by
a START for another address, that byte unacknowledged), to a new write phase, or to a bare read (R151, R152). A bare read,
from IDLE or by a repeated START after a read phase, sends a summary frame of the moment with the timer at 50 ms; while a
frame is still being handled its address byte is held, and the summary is built when that reply comes into hand (R148,
R152, R153, 10.6). ALERTn is low, in the frame as on the pin, exactly while a client that is ACTIVE with alert enable on
has attention, a changed allotment or a retired count above 0 (R141). None of these touches a reply slot or another block.
The end of a phase that sends an accepted RESTART's reply is in `EveryResetEndsWithTheResetValues`. That an acknowledge
after the sending has stopped, which no byte brings, changes nothing is the model's reading (log entry 8, DEDUCED). The
port state while an address byte is held is the model's reading (log entry 24, DEDUCED). -/
def Obligations.ReadPhasesSendTheirFrameThenFiller : Prop :=
  ∀ s : State, s.inReset = false →
    let attention := fun c : ClientIx => (0 < (s.plant.client c).retired) ∨ ∃ i : SlotIx,
      (s.plant.allot i).state ≠ .free ∧ (s.plant.allot i).owner = some c ∧ (s.plant.allot i).changed = true
    let alert := ∃ c : ClientIx, (s.plant.client c).state = .active ∧ (s.plant.client c).alert = true ∧ attention c
    let part : Byte := match s.ctl.part with | .setup => 0 | .run => 1
    let cause : Byte := match s.ctl.cause with | .powerOn => 1 | .resetPin => 2 | .restart => 3
    let derate : Byte := match s.lim.derate with | .normal => 0 | .derated => 1 | .holding => 2
    let summary := replyFrame 0 .ok
      ([part, cause, derate] ++ word s.lim.effective ++ word s.plant.eng.committed
        ++ [byte s.plant.eng.queue.length, flag s.plant.eng.stage.isSome,
            byte ((List.finRange 32).filter fun i => (s.plant.allot i).state ≠ .free).length, if alert then 1 else 0,
            byte (((List.finRange 8).map fun c => if attention c then 2 ^ c.val else 0).sum)])
    let sends := fun cmd : Instr => exec cmd s = .next { s with port := { s.port with
      state := .summary, timer := some 50, inHand := some summary, position := 0, stopped := false, acked := true } }
    (s.alertLow = true ↔ alert)
    ∧ (s.port.state = .tx ∨ s.port.state = .summary → s.port.held = none →
      (∀ f : List Byte, s.port.inHand = some f → s.port.stopped = false →
        s.port.sendingByte = some (if h : s.port.position < f.length then f[s.port.position] else 0xFF)
        ∧ exec (.readByteAck true) s = .next
            { s with port := { s.port with position := min (s.port.position + 1) f.length } }
        ∧ exec (.readByteAck false) s = .next { s with port := { s.port with stopped := true } })
      ∧ (s.port.stopped = true → s.port.sendingByte = none ∧ ∀ a, exec (.readByteAck a) s = .next s)
      ∧ ((s.port.state = .tx → s.port.restartReply = false) →
        (let idle : Port := { s.port with state := .idle, timer := none, inHand := none, position := 0, stopped := false }
         exec (.readPhaseEnd .stop) s = .next { s with port := idle }
         ∧ exec (.readPhaseEnd .restartOther) s = .next { s with port := { idle with acked := false } })
        ∧ exec (.readPhaseEnd .restartWrite) s = .next { s with port := { s.port with
            state := .rx, buffer := [], overLength := false, inHand := none, position := 0, stopped := false
            timer := some 50, held := if s.port.handling = true then some .write else none
            acked := !s.port.handling } }
        ∧ (s.port.handling = false → sends (.readPhaseEnd .restartRead) ∧ sends .bareRead)))
    ∧ (s.port.state = .idle → (s.port.handling = false → sends .bareRead)
      ∧ (s.port.handling = true → exec .bareRead s = .next { s with port := { s.port with
          state := .summary, timer := some 50, inHand := none, position := 0, stopped := false, held := some .read
          acked := false } }))
    ∧ (s.port.state = .summary → s.port.held = some .read → s.port.built.isSome = true →
      ¬(s.port.restartReply = true ∧ s.ctl.restartPending = true) →
      exec .replyInHand s = .next { s with port := { s.port with
        inHand := some summary, position := 0, stopped := false, held := none, acked := true
        handling := false, built := none } })

/-- A bus error in RX, TX or SUMMARY, and the expiry of the exchange timer in any state but IDLE, return the port to
IDLE without a timer; in RX the frame is discarded; a frame already handed to its owning block stays with it, every
reply slot keeps its copy and no other block changes. No exchange of RESTART is being answered here (R162, R163). -/
def Obligations.BusErrorAndTimerAbandonTheExchange : Prop :=
  ∀ (s : State) (cmd : Instr), s.inReset = false → s.port.restartReply = false →
    (cmd = .busError ∧ s.port.held = none
        ∧ (s.port.state = .rx ∨ s.port.state = .tx ∨ s.port.state = .summary))
      ∨ (cmd = .exchangeTimerExpiry ∧ s.port.timer.isSome = true) →
    ∃ t, exec cmd s = .next t ∧ t = { s with port := t.port } ∧ t.port.state = .idle ∧ t.port.timer = none
      ∧ t.port.inHand = none ∧ t.port.sclLow = false ∧ (s.port.state = .rx → t.port.buffer = [])
      ∧ t.port.handling = s.port.handling ∧ t.port.handed = s.port.handed ∧ t.port.built = s.port.built
      ∧ t.port.supervisorSlot = s.port.supervisorSlot ∧ t.port.clientSlots = s.port.clientSlots

/-- The frame check byte is the CRC-8 of R155: the register starts at FFh; each byte is combined into it and the
register is shifted left eight times, combined with 1Dh after each shift whose bit out was 1; there is no final
combination; over the nine ASCII bytes "123456789" it is B4h. A received frame passes the check only with the CRC of the
bytes before it as its last byte, and the frames the port builds end with it. It tells apart two runs of bytes that
differ in exactly one byte, so one damaged byte never passes the frame check. -/
def Obligations.FrameCheckByteIsTheCrcOfTheFrame : Prop :=
  let shift := fun r : Byte => if 128 ≤ r.toNat then BitVec.ofNat 8 (2 * r.toNat) ^^^ 0x1D#8 else BitVec.ofNat 8 (2 * r.toNat)
  crc8 [] = 0xFF#8
  ∧ (∀ (bytes : List Byte) (b : Byte), crc8 (bytes ++ [b]) = shift^[8] (crc8 bytes ^^^ b))
  ∧ crc8 [0x31, 0x32, 0x33, 0x34, 0x35, 0x36, 0x37, 0x38, 0x39] = 0xB4#8
  ∧ (∀ (bytes : List Byte) (b : Byte) (mark : Bool), frameCheckOk (bytes ++ [b]) mark = true → b = crc8 bytes)
  ∧ (∀ (n : Byte) (st : Status) (p : List Byte), ∃ bytes, replyFrame n st p = bytes ++ [crc8 bytes])
  ∧ (∀ s : State, ∃ bytes, s.summaryFrame = bytes ++ [crc8 bytes])
  ∧ ∀ (pre post : List Byte) (a b : Byte), a ≠ b → crc8 (pre ++ a :: post) ≠ crc8 (pre ++ b :: post)
end

