-- ==== Sys2Proof/Laws/State.lean ====
section
/-! SUPPORT. One lemma per field per update of the plant and of the state: what an update leaves as it was, and what it
writes. All hold by unfolding the update. -/

namespace Sys2Proof.Machine

@[simp] theorem Plant.setAllot_binding (p : Plant) (i : SlotIx) (a : Allotment) :
    (p.setAllot i a).eng.binding = p.eng.binding := rfl
@[simp] theorem Plant.setAllot_queue (p : Plant) (i : SlotIx) (a : Allotment) :
    (p.setAllot i a).eng.queue = p.eng.queue := rfl
@[simp] theorem Plant.setAllot_grants (p : Plant) (i : SlotIx) (a : Allotment) :
    (p.setAllot i a).eng.grants = p.eng.grants := rfl
@[simp] theorem Plant.setAllot_stage (p : Plant) (i : SlotIx) (a : Allotment) :
    (p.setAllot i a).eng.stage = p.eng.stage := rfl
@[simp] theorem Plant.setAllot_committed (p : Plant) (i : SlotIx) (a : Allotment) :
    (p.setAllot i a).eng.committed = p.eng.committed := rfl
@[simp] theorem Plant.setAllot_levels (p : Plant) (i : SlotIx) (a : Allotment) :
    (p.setAllot i a).eng.levels = p.eng.levels := rfl
@[simp] theorem Plant.setAllot_out (p : Plant) (i : SlotIx) (a : Allotment) : (p.setAllot i a).out = p.out := rfl
@[simp] theorem Plant.setAllot_clients (p : Plant) (i : SlotIx) (a : Allotment) :
    (p.setAllot i a).clients = p.clients := rfl
@[simp] theorem Plant.setAllot_chan (p : Plant) (i : SlotIx) (a : Allotment) (m : ChannelIx) :
    (p.setAllot i a).chan m = p.chan m := rfl
@[simp] theorem Plant.setAllot_client (p : Plant) (i : SlotIx) (a : Allotment) (d : ClientIx) :
    (p.setAllot i a).client d = p.client d := rfl
@[simp] theorem Plant.setCharge_binding (p : Plant) (i : SlotIx) (c : Nat) :
    (p.setCharge i c).eng.binding = p.eng.binding := rfl
@[simp] theorem Plant.setCharge_queue (p : Plant) (i : SlotIx) (c : Nat) :
    (p.setCharge i c).eng.queue = p.eng.queue := rfl
@[simp] theorem Plant.setCharge_grants (p : Plant) (i : SlotIx) (c : Nat) :
    (p.setCharge i c).eng.grants = p.eng.grants := rfl
@[simp] theorem Plant.setCharge_stage (p : Plant) (i : SlotIx) (c : Nat) :
    (p.setCharge i c).eng.stage = p.eng.stage := rfl
@[simp] theorem Plant.setCharge_levels (p : Plant) (i : SlotIx) (c : Nat) :
    (p.setCharge i c).eng.levels = p.eng.levels := rfl
@[simp] theorem Plant.setCharge_out (p : Plant) (i : SlotIx) (c : Nat) : (p.setCharge i c).out = p.out := rfl
@[simp] theorem Plant.setCharge_clients (p : Plant) (i : SlotIx) (c : Nat) :
    (p.setCharge i c).clients = p.clients := rfl
@[simp] theorem Plant.setCharge_chan (p : Plant) (i : SlotIx) (c : Nat) (m : ChannelIx) :
    (p.setCharge i c).chan m = p.chan m := rfl
@[simp] theorem Plant.setCharge_client (p : Plant) (i : SlotIx) (c : Nat) (d : ClientIx) :
    (p.setCharge i c).client d = p.client d := rfl
@[simp] theorem Plant.leaveQueue_allots (p : Plant) (i : SlotIx) : (p.leaveQueue i).eng.allots = p.eng.allots := rfl
@[simp] theorem Plant.leaveQueue_binding (p : Plant) (i : SlotIx) :
    (p.leaveQueue i).eng.binding = p.eng.binding := rfl
@[simp] theorem Plant.leaveQueue_grants (p : Plant) (i : SlotIx) : (p.leaveQueue i).eng.grants = p.eng.grants := rfl
@[simp] theorem Plant.leaveQueue_stage (p : Plant) (i : SlotIx) : (p.leaveQueue i).eng.stage = p.eng.stage := rfl
@[simp] theorem Plant.leaveQueue_committed (p : Plant) (i : SlotIx) :
    (p.leaveQueue i).eng.committed = p.eng.committed := rfl
@[simp] theorem Plant.leaveQueue_levels (p : Plant) (i : SlotIx) : (p.leaveQueue i).eng.levels = p.eng.levels := rfl
@[simp] theorem Plant.leaveQueue_out (p : Plant) (i : SlotIx) : (p.leaveQueue i).out = p.out := rfl
@[simp] theorem Plant.leaveQueue_clients (p : Plant) (i : SlotIx) : (p.leaveQueue i).clients = p.clients := rfl
@[simp] theorem Plant.leaveQueue_allot (p : Plant) (i : SlotIx) (j : SlotIx) :
    (p.leaveQueue i).allot j = p.allot j := rfl
@[simp] theorem Plant.leaveQueue_chan (p : Plant) (i : SlotIx) (m : ChannelIx) :
    (p.leaveQueue i).chan m = p.chan m := rfl
@[simp] theorem Plant.leaveQueue_client (p : Plant) (i : SlotIx) (d : ClientIx) :
    (p.leaveQueue i).client d = p.client d := rfl
@[simp] theorem Plant.queueBack_allots (p : Plant) (i : SlotIx) : (p.queueBack i).eng.allots = p.eng.allots := rfl
@[simp] theorem Plant.queueBack_binding (p : Plant) (i : SlotIx) : (p.queueBack i).eng.binding = p.eng.binding := rfl
@[simp] theorem Plant.queueBack_grants (p : Plant) (i : SlotIx) : (p.queueBack i).eng.grants = p.eng.grants := rfl
@[simp] theorem Plant.queueBack_stage (p : Plant) (i : SlotIx) : (p.queueBack i).eng.stage = p.eng.stage := rfl
@[simp] theorem Plant.queueBack_committed (p : Plant) (i : SlotIx) :
    (p.queueBack i).eng.committed = p.eng.committed := rfl
@[simp] theorem Plant.queueBack_levels (p : Plant) (i : SlotIx) : (p.queueBack i).eng.levels = p.eng.levels := rfl
@[simp] theorem Plant.queueBack_out (p : Plant) (i : SlotIx) : (p.queueBack i).out = p.out := rfl
@[simp] theorem Plant.queueBack_clients (p : Plant) (i : SlotIx) : (p.queueBack i).clients = p.clients := rfl
@[simp] theorem Plant.queueBack_allot (p : Plant) (i : SlotIx) (j : SlotIx) :
    (p.queueBack i).allot j = p.allot j := rfl
@[simp] theorem Plant.queueBack_chan (p : Plant) (i : SlotIx) (m : ChannelIx) :
    (p.queueBack i).chan m = p.chan m := rfl
@[simp] theorem Plant.queueBack_client (p : Plant) (i : SlotIx) (d : ClientIx) :
    (p.queueBack i).client d = p.client d := rfl
@[simp] theorem Plant.queueFront_allots (p : Plant) (i : SlotIx) : (p.queueFront i).eng.allots = p.eng.allots := rfl
@[simp] theorem Plant.queueFront_binding (p : Plant) (i : SlotIx) :
    (p.queueFront i).eng.binding = p.eng.binding := rfl
@[simp] theorem Plant.queueFront_grants (p : Plant) (i : SlotIx) : (p.queueFront i).eng.grants = p.eng.grants := rfl
@[simp] theorem Plant.queueFront_stage (p : Plant) (i : SlotIx) : (p.queueFront i).eng.stage = p.eng.stage := rfl
@[simp] theorem Plant.queueFront_committed (p : Plant) (i : SlotIx) :
    (p.queueFront i).eng.committed = p.eng.committed := rfl
@[simp] theorem Plant.queueFront_levels (p : Plant) (i : SlotIx) : (p.queueFront i).eng.levels = p.eng.levels := rfl
@[simp] theorem Plant.queueFront_out (p : Plant) (i : SlotIx) : (p.queueFront i).out = p.out := rfl
@[simp] theorem Plant.queueFront_clients (p : Plant) (i : SlotIx) : (p.queueFront i).clients = p.clients := rfl
@[simp] theorem Plant.queueFront_allot (p : Plant) (i : SlotIx) (j : SlotIx) :
    (p.queueFront i).allot j = p.allot j := rfl
@[simp] theorem Plant.queueFront_chan (p : Plant) (i : SlotIx) (m : ChannelIx) :
    (p.queueFront i).chan m = p.chan m := rfl
@[simp] theorem Plant.queueFront_client (p : Plant) (i : SlotIx) (d : ClientIx) :
    (p.queueFront i).client d = p.client d := rfl
@[simp] theorem Plant.joinGrants_allots (p : Plant) (i : SlotIx) : (p.joinGrants i).eng.allots = p.eng.allots := rfl
@[simp] theorem Plant.joinGrants_binding (p : Plant) (i : SlotIx) :
    (p.joinGrants i).eng.binding = p.eng.binding := rfl
@[simp] theorem Plant.joinGrants_queue (p : Plant) (i : SlotIx) : (p.joinGrants i).eng.queue = p.eng.queue := rfl
@[simp] theorem Plant.joinGrants_stage (p : Plant) (i : SlotIx) : (p.joinGrants i).eng.stage = p.eng.stage := rfl
@[simp] theorem Plant.joinGrants_committed (p : Plant) (i : SlotIx) :
    (p.joinGrants i).eng.committed = p.eng.committed := rfl
@[simp] theorem Plant.joinGrants_levels (p : Plant) (i : SlotIx) : (p.joinGrants i).eng.levels = p.eng.levels := rfl
@[simp] theorem Plant.joinGrants_out (p : Plant) (i : SlotIx) : (p.joinGrants i).out = p.out := rfl
@[simp] theorem Plant.joinGrants_clients (p : Plant) (i : SlotIx) : (p.joinGrants i).clients = p.clients := rfl
@[simp] theorem Plant.joinGrants_allot (p : Plant) (i : SlotIx) (j : SlotIx) :
    (p.joinGrants i).allot j = p.allot j := rfl
@[simp] theorem Plant.joinGrants_chan (p : Plant) (i : SlotIx) (m : ChannelIx) :
    (p.joinGrants i).chan m = p.chan m := rfl
@[simp] theorem Plant.joinGrants_client (p : Plant) (i : SlotIx) (d : ClientIx) :
    (p.joinGrants i).client d = p.client d := rfl
@[simp] theorem Plant.leaveGrants_allots (p : Plant) (i : SlotIx) : (p.leaveGrants i).eng.allots = p.eng.allots := rfl
@[simp] theorem Plant.leaveGrants_binding (p : Plant) (i : SlotIx) :
    (p.leaveGrants i).eng.binding = p.eng.binding := rfl
@[simp] theorem Plant.leaveGrants_queue (p : Plant) (i : SlotIx) : (p.leaveGrants i).eng.queue = p.eng.queue := rfl
@[simp] theorem Plant.leaveGrants_stage (p : Plant) (i : SlotIx) : (p.leaveGrants i).eng.stage = p.eng.stage := rfl
@[simp] theorem Plant.leaveGrants_committed (p : Plant) (i : SlotIx) :
    (p.leaveGrants i).eng.committed = p.eng.committed := rfl
@[simp] theorem Plant.leaveGrants_levels (p : Plant) (i : SlotIx) : (p.leaveGrants i).eng.levels = p.eng.levels := rfl
@[simp] theorem Plant.leaveGrants_out (p : Plant) (i : SlotIx) : (p.leaveGrants i).out = p.out := rfl
@[simp] theorem Plant.leaveGrants_clients (p : Plant) (i : SlotIx) : (p.leaveGrants i).clients = p.clients := rfl
@[simp] theorem Plant.leaveGrants_allot (p : Plant) (i : SlotIx) (j : SlotIx) :
    (p.leaveGrants i).allot j = p.allot j := rfl
@[simp] theorem Plant.leaveGrants_chan (p : Plant) (i : SlotIx) (m : ChannelIx) :
    (p.leaveGrants i).chan m = p.chan m := rfl
@[simp] theorem Plant.leaveGrants_client (p : Plant) (i : SlotIx) (d : ClientIx) :
    (p.leaveGrants i).client d = p.client d := rfl
@[simp] theorem Plant.setStage_allots (p : Plant) (h : Option Handle) :
    (p.setStage h).eng.allots = p.eng.allots := rfl
@[simp] theorem Plant.setStage_binding (p : Plant) (h : Option Handle) :
    (p.setStage h).eng.binding = p.eng.binding := rfl
@[simp] theorem Plant.setStage_queue (p : Plant) (h : Option Handle) : (p.setStage h).eng.queue = p.eng.queue := rfl
@[simp] theorem Plant.setStage_grants (p : Plant) (h : Option Handle) :
    (p.setStage h).eng.grants = p.eng.grants := rfl
@[simp] theorem Plant.setStage_committed (p : Plant) (h : Option Handle) :
    (p.setStage h).eng.committed = p.eng.committed := rfl
@[simp] theorem Plant.setStage_levels (p : Plant) (h : Option Handle) :
    (p.setStage h).eng.levels = p.eng.levels := rfl
@[simp] theorem Plant.setStage_out (p : Plant) (h : Option Handle) : (p.setStage h).out = p.out := rfl
@[simp] theorem Plant.setStage_clients (p : Plant) (h : Option Handle) : (p.setStage h).clients = p.clients := rfl
@[simp] theorem Plant.setStage_allot (p : Plant) (h : Option Handle) (j : SlotIx) :
    (p.setStage h).allot j = p.allot j := rfl
@[simp] theorem Plant.setStage_chan (p : Plant) (h : Option Handle) (m : ChannelIx) :
    (p.setStage h).chan m = p.chan m := rfl
@[simp] theorem Plant.setStage_client (p : Plant) (h : Option Handle) (d : ClientIx) :
    (p.setStage h).client d = p.client d := rfl
@[simp] theorem Plant.regroup_allots (p : Plant) : (p.regroup).eng.allots = p.eng.allots := rfl
@[simp] theorem Plant.regroup_binding (p : Plant) : (p.regroup).eng.binding = p.eng.binding := rfl
@[simp] theorem Plant.regroup_grants (p : Plant) : (p.regroup).eng.grants = p.eng.grants := rfl
@[simp] theorem Plant.regroup_stage (p : Plant) : (p.regroup).eng.stage = p.eng.stage := rfl
@[simp] theorem Plant.regroup_committed (p : Plant) : (p.regroup).eng.committed = p.eng.committed := rfl
@[simp] theorem Plant.regroup_levels (p : Plant) : (p.regroup).eng.levels = p.eng.levels := rfl
@[simp] theorem Plant.regroup_out (p : Plant) : (p.regroup).out = p.out := rfl
@[simp] theorem Plant.regroup_clients (p : Plant) : (p.regroup).clients = p.clients := rfl
@[simp] theorem Plant.regroup_allot (p : Plant) (j : SlotIx) : (p.regroup).allot j = p.allot j := rfl
@[simp] theorem Plant.regroup_chan (p : Plant) (m : ChannelIx) : (p.regroup).chan m = p.chan m := rfl
@[simp] theorem Plant.regroup_client (p : Plant) (d : ClientIx) : (p.regroup).client d = p.client d := rfl
@[simp] theorem Plant.bindTerms_allots (p : Plant) (l : List Term) (h : Option Handle) :
    (p.bindTerms l h).eng.allots = p.eng.allots := rfl
@[simp] theorem Plant.bindTerms_queue (p : Plant) (l : List Term) (h : Option Handle) :
    (p.bindTerms l h).eng.queue = p.eng.queue := rfl
@[simp] theorem Plant.bindTerms_grants (p : Plant) (l : List Term) (h : Option Handle) :
    (p.bindTerms l h).eng.grants = p.eng.grants := rfl
@[simp] theorem Plant.bindTerms_stage (p : Plant) (l : List Term) (h : Option Handle) :
    (p.bindTerms l h).eng.stage = p.eng.stage := rfl
@[simp] theorem Plant.bindTerms_committed (p : Plant) (l : List Term) (h : Option Handle) :
    (p.bindTerms l h).eng.committed = p.eng.committed := rfl
@[simp] theorem Plant.bindTerms_levels (p : Plant) (l : List Term) (h : Option Handle) :
    (p.bindTerms l h).eng.levels = p.eng.levels := rfl
@[simp] theorem Plant.bindTerms_out (p : Plant) (l : List Term) (h : Option Handle) :
    (p.bindTerms l h).out = p.out := rfl
@[simp] theorem Plant.bindTerms_clients (p : Plant) (l : List Term) (h : Option Handle) :
    (p.bindTerms l h).clients = p.clients := rfl
@[simp] theorem Plant.bindTerms_allot (p : Plant) (l : List Term) (h : Option Handle) (j : SlotIx) :
    (p.bindTerms l h).allot j = p.allot j := rfl
@[simp] theorem Plant.bindTerms_chan (p : Plant) (l : List Term) (h : Option Handle) (m : ChannelIx) :
    (p.bindTerms l h).chan m = p.chan m := rfl
@[simp] theorem Plant.bindTerms_client (p : Plant) (l : List Term) (h : Option Handle) (d : ClientIx) :
    (p.bindTerms l h).client d = p.client d := rfl
@[simp] theorem Plant.setState_binding (p : Plant) (i : SlotIx) (st : AllotState) :
    (p.setState i st).eng.binding = p.eng.binding := rfl
@[simp] theorem Plant.setState_queue (p : Plant) (i : SlotIx) (st : AllotState) :
    (p.setState i st).eng.queue = p.eng.queue := rfl
@[simp] theorem Plant.setState_grants (p : Plant) (i : SlotIx) (st : AllotState) :
    (p.setState i st).eng.grants = p.eng.grants := rfl
@[simp] theorem Plant.setState_stage (p : Plant) (i : SlotIx) (st : AllotState) :
    (p.setState i st).eng.stage = p.eng.stage := rfl
@[simp] theorem Plant.setState_committed (p : Plant) (i : SlotIx) (st : AllotState) :
    (p.setState i st).eng.committed = p.eng.committed := rfl
@[simp] theorem Plant.setState_levels (p : Plant) (i : SlotIx) (st : AllotState) :
    (p.setState i st).eng.levels = p.eng.levels := rfl
@[simp] theorem Plant.setState_out (p : Plant) (i : SlotIx) (st : AllotState) : (p.setState i st).out = p.out := rfl
@[simp] theorem Plant.setState_clients (p : Plant) (i : SlotIx) (st : AllotState) :
    (p.setState i st).clients = p.clients := rfl
@[simp] theorem Plant.setState_chan (p : Plant) (i : SlotIx) (st : AllotState) (m : ChannelIx) :
    (p.setState i st).chan m = p.chan m := rfl
@[simp] theorem Plant.setState_client (p : Plant) (i : SlotIx) (st : AllotState) (d : ClientIx) :
    (p.setState i st).client d = p.client d := rfl
@[simp] theorem Plant.clearChanged_binding (p : Plant) (i : SlotIx) :
    (p.clearChanged i).eng.binding = p.eng.binding := rfl
@[simp] theorem Plant.clearChanged_queue (p : Plant) (i : SlotIx) : (p.clearChanged i).eng.queue = p.eng.queue := rfl
@[simp] theorem Plant.clearChanged_grants (p : Plant) (i : SlotIx) :
    (p.clearChanged i).eng.grants = p.eng.grants := rfl
@[simp] theorem Plant.clearChanged_stage (p : Plant) (i : SlotIx) : (p.clearChanged i).eng.stage = p.eng.stage := rfl
@[simp] theorem Plant.clearChanged_committed (p : Plant) (i : SlotIx) :
    (p.clearChanged i).eng.committed = p.eng.committed := rfl
@[simp] theorem Plant.clearChanged_levels (p : Plant) (i : SlotIx) :
    (p.clearChanged i).eng.levels = p.eng.levels := rfl
@[simp] theorem Plant.clearChanged_out (p : Plant) (i : SlotIx) : (p.clearChanged i).out = p.out := rfl
@[simp] theorem Plant.clearChanged_clients (p : Plant) (i : SlotIx) : (p.clearChanged i).clients = p.clients := rfl
@[simp] theorem Plant.clearChanged_chan (p : Plant) (i : SlotIx) (m : ChannelIx) :
    (p.clearChanged i).chan m = p.chan m := rfl
@[simp] theorem Plant.clearChanged_client (p : Plant) (i : SlotIx) (d : ClientIx) :
    (p.clearChanged i).client d = p.client d := rfl
@[simp] theorem Plant.setChan_eng (p : Plant) (n : ChannelIx) (c : Channel) : (p.setChan n c).eng = p.eng := rfl
@[simp] theorem Plant.setChan_clients (p : Plant) (n : ChannelIx) (c : Channel) :
    (p.setChan n c).clients = p.clients := rfl
@[simp] theorem Plant.setChan_allot (p : Plant) (n : ChannelIx) (c : Channel) (j : SlotIx) :
    (p.setChan n c).allot j = p.allot j := rfl
@[simp] theorem Plant.setChan_client (p : Plant) (n : ChannelIx) (c : Channel) (d : ClientIx) :
    (p.setChan n c).client d = p.client d := rfl
@[simp] theorem Plant.setClient_eng (p : Plant) (c : ClientIx) (x : Client) : (p.setClient c x).eng = p.eng := rfl
@[simp] theorem Plant.setClient_out (p : Plant) (c : ClientIx) (x : Client) : (p.setClient c x).out = p.out := rfl
@[simp] theorem Plant.setClient_allot (p : Plant) (c : ClientIx) (x : Client) (j : SlotIx) :
    (p.setClient c x).allot j = p.allot j := rfl
@[simp] theorem Plant.setClient_chan (p : Plant) (c : ClientIx) (x : Client) (m : ChannelIx) :
    (p.setClient c x).chan m = p.chan m := rfl
@[simp] theorem OutputStage.setChan_timing (o : OutputStage) (n : ChannelIx) (c : Channel) :
    (o.setChan n c).timing = o.timing := rfl
@[simp] theorem OutputStage.setChan_nextTiming (o : OutputStage) (n : ChannelIx) (c : Channel) :
    (o.setChan n c).nextTiming = o.nextTiming := rfl
@[simp] theorem OutputStage.setChan_frameCount (o : OutputStage) (n : ChannelIx) (c : Channel) :
    (o.setChan n c).frameCount = o.frameCount := rfl
@[simp] theorem OutputStage.setChan_rampCounter (o : OutputStage) (n : ChannelIx) (c : Channel) :
    (o.setChan n c).rampCounter = o.rampCounter := rfl
@[simp] theorem OutputStage.setChan_reports (o : OutputStage) (n : ChannelIx) (c : Channel) :
    (o.setChan n c).reports = o.reports := rfl
@[simp] theorem OutputStage.dropReports_channels (o : OutputStage) (n : ChannelIx) :
    (o.dropReports n).channels = o.channels := rfl
@[simp] theorem OutputStage.dropReports_reports (o : OutputStage) (n : ChannelIx) :
    (o.dropReports n).reports = o.reports.filter fun r => r.channel ≠ n := rfl
@[simp] theorem OutputStage.dropReports_timing (o : OutputStage) (n : ChannelIx) :
    (o.dropReports n).timing = o.timing := rfl
@[simp] theorem OutputStage.dropReports_nextTiming (o : OutputStage) (n : ChannelIx) :
    (o.dropReports n).nextTiming = o.nextTiming := rfl
@[simp] theorem OutputStage.dropReports_frameCount (o : OutputStage) (n : ChannelIx) :
    (o.dropReports n).frameCount = o.frameCount := rfl
@[simp] theorem OutputStage.dropReports_rampCounter (o : OutputStage) (n : ChannelIx) :
    (o.dropReports n).rampCounter = o.rampCounter := rfl
@[simp] theorem State.setPlant_lim (s : State) (p : Plant) : (s.setPlant p).lim = s.lim := rfl
@[simp] theorem State.setPlant_port (s : State) (p : Plant) : (s.setPlant p).port = s.port := rfl
@[simp] theorem State.setPlant_ctl (s : State) (p : Plant) : (s.setPlant p).ctl = s.ctl := rfl
@[simp] theorem State.setPlant_pins (s : State) (p : Plant) : (s.setPlant p).pins = s.pins := rfl
@[simp] theorem State.setPlant_returned (s : State) (p : Plant) : (s.setPlant p).returned = s.returned := rfl
@[simp] theorem State.setPlant_pending (s : State) (p : Plant) : (s.setPlant p).pending = s.pending := rfl
@[simp] theorem State.setPort_plant (s : State) (t : Port) : (s.setPort t).plant = s.plant := rfl
@[simp] theorem State.setPort_lim (s : State) (t : Port) : (s.setPort t).lim = s.lim := rfl
@[simp] theorem State.setPort_ctl (s : State) (t : Port) : (s.setPort t).ctl = s.ctl := rfl
@[simp] theorem State.setPort_pins (s : State) (t : Port) : (s.setPort t).pins = s.pins := rfl
@[simp] theorem State.setPort_returned (s : State) (t : Port) : (s.setPort t).returned = s.returned := rfl
@[simp] theorem State.setPort_pending (s : State) (t : Port) : (s.setPort t).pending = s.pending := rfl
@[simp] theorem State.setPart_plant (s : State) (x : PartState) : (s.setPart x).plant = s.plant := rfl
@[simp] theorem State.setPart_lim (s : State) (x : PartState) : (s.setPart x).lim = s.lim := rfl
@[simp] theorem State.setPart_port (s : State) (x : PartState) : (s.setPart x).port = s.port := rfl
@[simp] theorem State.setPart_pins (s : State) (x : PartState) : (s.setPart x).pins = s.pins := rfl
@[simp] theorem State.setPart_returned (s : State) (x : PartState) : (s.setPart x).returned = s.returned := rfl
@[simp] theorem State.setPart_pending (s : State) (x : PartState) : (s.setPart x).pending = s.pending := rfl
@[simp] theorem State.setDerate_plant (s : State) (d : DerateState) (k : Option Nat) :
    (s.setDerate d k).plant = s.plant := rfl
@[simp] theorem State.setDerate_port (s : State) (d : DerateState) (k : Option Nat) :
    (s.setDerate d k).port = s.port := rfl
@[simp] theorem State.setDerate_ctl (s : State) (d : DerateState) (k : Option Nat) :
    (s.setDerate d k).ctl = s.ctl := rfl
@[simp] theorem State.setDerate_pins (s : State) (d : DerateState) (k : Option Nat) :
    (s.setDerate d k).pins = s.pins := rfl
@[simp] theorem State.setDerate_returned (s : State) (d : DerateState) (k : Option Nat) :
    (s.setDerate d k).returned = s.returned := rfl
@[simp] theorem State.setDerate_pending (s : State) (d : DerateState) (k : Option Nat) :
    (s.setDerate d k).pending = s.pending := rfl
@[simp] theorem State.setDerateLow_plant (s : State) (b : Bool) : (s.setDerateLow b).plant = s.plant := rfl
@[simp] theorem State.setDerateLow_lim (s : State) (b : Bool) : (s.setDerateLow b).lim = s.lim := rfl
@[simp] theorem State.setDerateLow_port (s : State) (b : Bool) : (s.setDerateLow b).port = s.port := rfl
@[simp] theorem State.setDerateLow_ctl (s : State) (b : Bool) : (s.setDerateLow b).ctl = s.ctl := rfl
@[simp] theorem State.setDerateLow_returned (s : State) (b : Bool) : (s.setDerateLow b).returned = s.returned := rfl
@[simp] theorem State.setDerateLow_pending (s : State) (b : Bool) : (s.setDerateLow b).pending = s.pending := rfl
@[simp] theorem State.setFaultLow_plant (s : State) (n : ChannelIx) (b : Bool) :
    (s.setFaultLow n b).plant = s.plant := rfl
@[simp] theorem State.setFaultLow_lim (s : State) (n : ChannelIx) (b : Bool) : (s.setFaultLow n b).lim = s.lim := rfl
@[simp] theorem State.setFaultLow_port (s : State) (n : ChannelIx) (b : Bool) :
    (s.setFaultLow n b).port = s.port := rfl
@[simp] theorem State.setFaultLow_ctl (s : State) (n : ChannelIx) (b : Bool) : (s.setFaultLow n b).ctl = s.ctl := rfl
@[simp] theorem State.setFaultLow_returned (s : State) (n : ChannelIx) (b : Bool) :
    (s.setFaultLow n b).returned = s.returned := rfl
@[simp] theorem State.setFaultLow_pending (s : State) (n : ChannelIx) (b : Bool) :
    (s.setFaultLow n b).pending = s.pending := rfl
@[simp] theorem State.blocksReset_pins (s : State) (r : ResetCause) (a : Nat) (b : Bool) :
    (s.blocksReset r a b).pins = s.pins := rfl
@[simp] theorem State.blocksReset_pending (s : State) (r : ResetCause) (a : Nat) (b : Bool) :
    (s.blocksReset r a b).pending = s.pending := rfl
@[simp] theorem State.endReset_pins (s : State) (r : ResetCause) : (s.endReset r).pins = s.pins := rfl
@[simp] theorem State.endReset_pending (s : State) (r : ResetCause) : (s.endReset r).pending = s.pending := rfl
@[simp] theorem State.setPlant_plant (s : State) (p : Plant) : (s.setPlant p).plant = p := rfl
@[simp] theorem State.setPort_port (s : State) (t : Port) : (s.setPort t).port = t := rfl
@[simp] theorem State.setPart_part (s : State) (x : PartState) : (s.setPart x).ctl.part = x := rfl
@[simp] theorem Plant.setStage_stage (p : Plant) (h : Option Handle) : (p.setStage h).eng.stage = h := rfl
@[simp] theorem Plant.setCharge_committed (p : Plant) (i : SlotIx) (c : Nat) :
    (p.setCharge i c).eng.committed = p.eng.committed - (p.allot i).charge + c := rfl

end Sys2Proof.Machine
end

