-- ==== Sys2Proof/Laws/Ops.lean ====
section
/-! SUPPORT. What each shared operation over the records can do, said once: reading after writing, the committed charge,
the places of the wait queue, the binding map, transitions, cuts, freeing a slot, and passes that cannot run. -/

namespace Sys2Proof.Machine

/-! ### Reading after writing -/

theorem Plant.allot_setAllot (p : Plant) (i j : SlotIx) (a : Allotment) :
    (p.setAllot i a).allot j = if j = i then a else p.allot j := by
  by_cases h : j = i
  · subst h; simp [Plant.allot, Plant.setAllot]
  · have : i.val ≠ j.val := fun e => h (Fin.ext e.symm)
    simp [Plant.allot, Plant.setAllot, h, this]

@[simp] theorem Plant.allot_setAllot_self (p : Plant) (i : SlotIx) (a : Allotment) : (p.setAllot i a).allot i = a := by
  simp [Plant.allot_setAllot]

theorem Plant.allot_setAllot_ne (p : Plant) {i j : SlotIx} (a : Allotment) (h : j ≠ i) :
    (p.setAllot i a).allot j = p.allot j := by simp [Plant.allot_setAllot, h]

/-- The charge of one slot moves, and nothing else of any record. -/
theorem Plant.allot_setCharge (p : Plant) (i j : SlotIx) (c : Nat) :
    (p.setCharge i c).allot j = if j = i then { p.allot i with charge := c } else p.allot j :=
  p.allot_setAllot i j { p.allot i with charge := c }

@[simp] theorem Plant.allot_setCharge_self (p : Plant) (i : SlotIx) (c : Nat) :
    (p.setCharge i c).allot i = { p.allot i with charge := c } := by simp [Plant.allot_setCharge]

theorem Plant.chan_setChan (p : Plant) (n m : ChannelIx) (c : Channel) :
    (p.setChan n c).chan m = if m = n then c else p.chan m := by
  by_cases h : m = n
  · subst h; simp [Plant.chan, Plant.setChan, OutputStage.setChan]
  · have : n.val ≠ m.val := fun e => h (Fin.ext e.symm)
    simp [Plant.chan, Plant.setChan, OutputStage.setChan, h, this]

theorem OutputStage.channels_setChan (o : OutputStage) (n m : ChannelIx) (c : Channel) :
    (o.setChan n c).channels[m] = if m = n then c else o.channels[m] := by
  by_cases h : m = n
  · subst h; simp [OutputStage.setChan]
  · have : n.val ≠ m.val := fun e => h (Fin.ext e.symm)
    simp [OutputStage.setChan, h, this]

theorem Plant.client_setClient (p : Plant) (c d : ClientIx) (x : Client) :
    (p.setClient c x).client d = if d = c then x else p.client d := by
  by_cases h : d = c
  · subst h; simp [Plant.client, Plant.setClient]
  · have : c.val ≠ d.val := fun e => h (Fin.ext e.symm)
    simp [Plant.client, Plant.setClient, h, this]

@[simp] theorem Plant.client_setClient_self (p : Plant) (c : ClientIx) (x : Client) :
    (p.setClient c x).client c = x := by simp [Plant.client_setClient]

/-! ### The changed flag -/

/-- Marking writes the changed flag of one slot and nothing else of the plant. -/
theorem Plant.markChanged_cases (p : Plant) (o : Origin) (i : SlotIx) :
    p.markChanged o i = p ∨ p.markChanged o i = p.setAllot i { p.allot i with changed := true } := by
  unfold Plant.markChanged; split
  · exact .inl rfl
  · exact .inr rfl

/-- An event that is no owner's own request always marks (R14). -/
@[simp] theorem Plant.markChanged_other (p : Plant) (i : SlotIx) :
    p.markChanged .other i = p.setAllot i { p.allot i with changed := true } := rfl

/-- The owner's own request never marks the allotment it names (R14). -/
@[simp] theorem Plant.markChanged_owner (p : Plant) (i : SlotIx) : p.markChanged (.owner i) i = p := by
  simp [Plant.markChanged, Origin.spares]

/-! ### The places of the wait queue -/

/-- Joining at the back of a rank adds the entry once and keeps the others in their order. -/
theorem placeBack_split (p : Plant) (c : ClassIx) (h : Handle) (l : List Handle) :
    ∃ pre post, l = pre ++ post ∧ placeBack p c h l = pre ++ h :: post
      ∧ (∀ e ∈ pre, ranksAbove p.eng.levels c (p.classOf e) = false)
      ∧ ∀ e ∈ post.head?, ranksAbove p.eng.levels c (p.classOf e) = true := by
  induction l with
  | nil => exact ⟨[], [], rfl, rfl, by simp, by simp⟩
  | cons e r ih =>
    by_cases hr : ranksAbove p.eng.levels c (p.classOf e) = true
    · exact ⟨[], e :: r, rfl, by simp [placeBack, hr], by simp, by simpa using hr⟩
    · obtain ⟨pre, post, h1, h2, h3, h4⟩ := ih
      refine ⟨e :: pre, post, by simp [h1], by simp [placeBack, hr, h2], ?_, h4⟩
      intro x hx
      rcases List.mem_cons.mp hx with rfl | hx
      · simpa using hr
      · exact h3 x hx

/-- Joining at the front of a rank adds the entry once and keeps the others in their order. -/
theorem placeFront_split (p : Plant) (c : ClassIx) (h : Handle) (l : List Handle) :
    ∃ pre post, l = pre ++ post ∧ placeFront p c h l = pre ++ h :: post
      ∧ (∀ e ∈ pre, p.classOf e ≠ c ∧ ranksAbove p.eng.levels c (p.classOf e) = false)
      ∧ ∀ e ∈ post.head?, p.classOf e = c ∨ ranksAbove p.eng.levels c (p.classOf e) = true := by
  induction l with
  | nil => exact ⟨[], [], rfl, rfl, by simp, by simp⟩
  | cons e r ih =>
    by_cases hr : p.classOf e = c ∨ ranksAbove p.eng.levels c (p.classOf e) = true
    · exact ⟨[], e :: r, rfl, by simp [placeFront, hr], by simp, by simpa using hr⟩
    · obtain ⟨pre, post, h1, h2, h3, h4⟩ := ih
      refine ⟨e :: pre, post, by simp [h1], by simp [placeFront, hr, h2], ?_, h4⟩
      intro x hx
      rcases List.mem_cons.mp hx with rfl | hx
      · simpa using hr
      · exact h3 x hx

theorem placeBack_perm (p : Plant) (c : ClassIx) (h : Handle) (l : List Handle) :
    (placeBack p c h l).Perm (h :: l) := by
  obtain ⟨pre, post, h1, h2, -⟩ := placeBack_split p c h l
  rw [h2, h1]; exact List.perm_middle

theorem placeFront_perm (p : Plant) (c : ClassIx) (h : Handle) (l : List Handle) :
    (placeFront p c h l).Perm (h :: l) := by
  obtain ⟨pre, post, h1, h2, -⟩ := placeFront_split p c h l
  rw [h2, h1]; exact List.perm_middle

/-! ### The binding map -/

/-- Binding terms writes the entries of their channels and no other. -/
theorem Plant.binding_bindTerms (p : Plant) (terms : List Term) (h : Option Handle) (n : ChannelIx) :
    (p.bindTerms terms h).eng.binding[n] = if n ∈ terms.map Term.channel then h else p.eng.binding[n] := by
  simp only [Plant.bindTerms]
  induction terms generalizing p with
  | nil => simp
  | cons t r ih =>
    have := ih { p with eng := { p.eng with binding := p.eng.binding.set t.channel h } }
    simp only [List.foldl_cons, List.map_cons, List.mem_cons] at this ⊢
    rw [this]
    by_cases hr : n ∈ r.map Term.channel
    · simp [hr]
    · by_cases ht : n = t.channel
      · subst ht; simp [hr]
      · have : t.channel.val ≠ n.val := fun e => ht (Fin.ext e.symm)
        simp [hr, ht, this]

/-! ### The output stage's commands -/

/-- One channel of a transition command touches no other channel. -/
theorem OutputStage.channels_takeCommand_ne (o : OutputStage) {n m : ChannelIx} (d : Nat) (id : BitVec 16)
    (h : m ≠ n) : (o.takeCommand n d id).channels[m] = o.channels[m] := by
  unfold OutputStage.takeCommand
  simp only
  split_ifs <;> simp only [OutputStage.channels_setChan, if_neg h, OutputStage.dropReports_channels]

/-- A transition command touches the channels of its terms and no other (R105). -/
theorem OutputStage.channels_command (o : OutputStage) (terms : List Term) (d : Term → Nat) (id : BitVec 16)
    (m : ChannelIx) (h : m ∉ terms.map Term.channel) : (o.command terms d id).channels[m] = o.channels[m] := by
  unfold OutputStage.command
  induction terms generalizing o with
  | nil => rfl
  | cons t r ih =>
    simp only [List.map_cons, List.mem_cons, not_or] at h
    rw [List.foldl_cons, ih _ h.2, o.channels_takeCommand_ne _ _ h.1]

/-- One channel of a transition command discards the reports of that channel, unless it is FAULTED (R72, R105). -/
theorem OutputStage.reports_takeCommand (o : OutputStage) (n : ChannelIx) (d : Nat) (id : BitVec 16) :
    (o.takeCommand n d id).reports =
      if o.channels[n].state = .faulted then o.reports else o.reports.filter fun r => r.channel ≠ n := by
  unfold OutputStage.takeCommand
  simp only
  split_ifs <;> simp

/-- A second cut of a channel changes nothing. -/
@[simp] theorem Channel.cut_cut (c : Channel) : c.cut.cut = c.cut := by
  cases h : c.state <;> simp [Channel.cut, Channel.cleared, h]

/-- A cut command cuts the channels it names and touches no other (R109). -/
theorem OutputStage.channels_cut (o : OutputStage) (ns : List ChannelIx) (m : ChannelIx) :
    (o.cut ns).channels[m] = if m ∈ ns then o.channels[m].cut else o.channels[m] := by
  unfold OutputStage.cut
  induction ns generalizing o with
  | nil => simp
  | cons n r ih =>
    rw [List.foldl_cons, ih, OutputStage.channels_setChan]
    by_cases hm : m = n
    · subst hm; simp
    · simp [hm]

/-- A cut discards the reports of the channels it names, in every channel state, and keeps the others in order (R72). -/
theorem OutputStage.reports_cut (o : OutputStage) (ns : List ChannelIx) :
    (o.cut ns).reports = o.reports.filter fun r => r.channel ∉ ns := by
  unfold OutputStage.cut
  induction ns generalizing o with
  | nil => simp
  | cons n r ih => rw [List.foldl_cons, ih]; simp [List.filter_filter, Bool.and_comm]

/-- A cut writes channels and reports, and leaves timing and counters alone. -/
theorem OutputStage.cut_frame (o : OutputStage) (ns : List ChannelIx) :
    o.cut ns = { o with channels := (o.cut ns).channels, reports := (o.cut ns).reports } := by
  unfold OutputStage.cut
  induction ns generalizing o with
  | nil => rfl
  | cons n r ih => rw [List.foldl_cons, ih]; rfl

/-- A latch writes one channel and discards its reports (R72, R115). -/
theorem OutputStage.latch_frame (o : OutputStage) (n : ChannelIx) :
    o.latch n = { o with channels := o.channels.set n o.channels[n].latched
                         reports := o.reports.filter fun r => r.channel ≠ n } := rfl

/-! ### Transitions -/

/-- The record of the slot for which a transition starts (R69). -/
theorem Plant.allot_startTransition (p : Plant) (i j : SlotIx) (d : Term → Nat) (oc : Option FallOutcome) :
    (p.startTransition i d oc).allot j =
      if j = i then { p.inTransition (p.allot i) d oc with charge := p.transitionCharge (p.allot i).terms d }
      else p.allot j := by
  change ((p.setAllot i _).setCharge i _).allot j = _
  rw [Plant.allot_setCharge]
  by_cases h : j = i
  · simp [h]
  · simp [h, Plant.allot_setAllot_ne _ _ h]

/-- A transition moves the committed charge by the change of its charge (R70), and commands the output stage. -/
theorem Plant.startTransition_frame (p : Plant) (i : SlotIx) (d : Term → Nat) (oc : Option FallOutcome) :
    let q := p.startTransition i d oc
    let a := p.allot i
    q.eng.committed = p.eng.committed - a.charge + p.transitionCharge a.terms d
    ∧ q.eng.queue = p.eng.queue ∧ q.eng.grants = p.eng.grants ∧ q.eng.stage = p.eng.stage
    ∧ q.eng.binding = p.eng.binding ∧ q.eng.levels = p.eng.levels ∧ q.clients = p.clients
    ∧ q.out = p.out.command a.terms d (a.commandId + 1) := by
  refine ⟨?_, rfl, rfl, rfl, rfl, rfl, rfl, rfl⟩
  have : ((p.setAllot i (p.inTransition (p.allot i) d oc)).allot i).charge = (p.allot i).charge := by
    rw [Plant.allot_setAllot_self]; rfl
  change (p.setAllot i _).eng.committed - ((p.setAllot i _).allot i).charge + _ = _
  rw [this]; rfl

/-! ### Freeing a slot -/

@[simp] theorem Plant.adjustClaimed_eng (p : Plant) (c : Option ClientIx) (a b : Nat) :
    (p.adjustClaimed c a b).eng = p.eng := by cases c <;> rfl

@[simp] theorem Plant.adjustClaimed_out (p : Plant) (c : Option ClientIx) (a b : Nat) :
    (p.adjustClaimed c a b).out = p.out := by cases c <;> rfl

@[simp] theorem Plant.retire_eng (p : Plant) (i : SlotIx) : (p.retire i).eng = p.eng := by
  unfold Plant.retire; split <;> rfl

@[simp] theorem Plant.retire_out (p : Plant) (i : SlotIx) : (p.retire i).out = p.out := by
  unfold Plant.retire; split <;> rfl

/-- A freed slot holds the FREE contents with the next generation (R2, R5); every other record stays. -/
theorem Plant.allot_freeSlot (p : Plant) (i j : SlotIx) :
    (p.freeSlot i).allot j = if j = i then (p.allot i).freed else p.allot j := by
  change (Plant.setAllot _ i _).allot j = _
  rw [Plant.allot_setAllot]
  by_cases h : j = i
  · simp [h]
  · simp only [if_neg h]
    change ((Plant.adjustClaimed _ _ _ _).eng.allots[j] : Allotment) = _
    rw [Plant.adjustClaimed_eng]
    change (p.setCharge i 0).allot j = _
    rw [Plant.allot_setCharge, if_neg h]

/-- Freeing gives its charge back, unbinds its channels and moves no list (R2). -/
theorem Plant.freeSlot_frame (p : Plant) (i : SlotIx) :
    (p.freeSlot i).eng.committed = p.eng.committed - (p.allot i).charge
    ∧ (p.freeSlot i).eng.queue = p.eng.queue ∧ (p.freeSlot i).eng.grants = p.eng.grants
    ∧ (p.freeSlot i).eng.stage = p.eng.stage ∧ (p.freeSlot i).eng.levels = p.eng.levels
    ∧ (p.freeSlot i).out = p.out := by
  simp [Plant.freeSlot, Plant.allot]

theorem Plant.binding_freeSlot (p : Plant) (i : SlotIx) (n : ChannelIx) :
    (p.freeSlot i).eng.binding[n] =
      if n ∈ (p.allot i).terms.map Term.channel then none else p.eng.binding[n] := by
  have : (p.freeSlot i).eng.binding = ((p.setCharge i 0).bindTerms (p.allot i).terms none).eng.binding := by
    simp [Plant.freeSlot]
  rw [this, Plant.binding_bindTerms]; rfl

/-! ### Passes that cannot run -/

/-- With the stage occupied no pass runs (R52). -/
theorem Plant.passIf_occupied (p : Plant) (eff : Nat) (o : Origin) (t : Bool) (h : p.eng.stage.isSome = true) :
    p.passIf eff o t = p := by
  cases hs : p.eng.stage <;> simp_all [Plant.passIf]

/-- Without a trigger no pass runs (R52). -/
@[simp] theorem Plant.passIf_false (p : Plant) (eff : Nat) (o : Origin) : p.passIf eff o false = p := rfl

/-- A pass over an empty queue finds nothing. -/
theorem Plant.pass_empty (p : Plant) (eff : Nat) (o : Origin) (h : p.eng.queue = []) : p.pass eff o = p := by
  simp [Plant.pass, h, passWalk]

/-- While the stage is occupied and some allotment is FALLING, the stage waits (R64). -/
theorem Plant.settleStage_waits (p : Plant) (eff : Nat) (t : Bool) (h : p.eng.stage.isSome = true)
    (hf : p.anyFalling = true) : p.settleStage eff t = p := by
  cases hs : p.eng.stage <;> simp_all [Plant.settleStage]

/-! ### The effective ceiling -/

/-- An unchanged effective ceiling is not reported (R26). -/
theorem State.recompute_same (s : State) (h : s.lim.effectiveFor s.ctl.part = s.lim.effective) : s.recompute = s := by
  simp [State.recompute, h]

/-- A recomputation keeps everything but the effective ceiling and, by its report, the plant. -/
theorem State.recompute_frame (s : State) :
    s.recompute = { s with plant := s.recompute.plant
                           lim := { s.lim with effective := s.lim.effectiveFor s.ctl.part } } := by
  by_cases h : s.lim.effectiveFor s.ctl.part = s.lim.effective
  · rw [State.recompute_same s h, h]
  · simp [State.recompute, h]

end Sys2Proof.Machine
end

