-- ==== Sys2Proof/Laws/Requests.lean ====
section
/-! SUPPORT. How a request is carried out: the equations of `State.taking` and `State.request` outside reset, the handle
tests of R6, the two-byte fields, and the reply slots. -/

namespace Sys2Proof.Machine

/-! ### Taking an event -/

theorem State.taking_run {s : State} (h : s.inReset = false) (f : State → State) : s.taking f = .next (f s) := by
  simp [State.taking, h]

theorem State.taking_held {s : State} (h : s.inReset = true) (f : State → State) : s.taking f = .next s := by
  simp [State.taking, h]

/-- A request of the supervisor outside reset: the block's state, answered with what the block returned. -/
theorem State.request_supervisor {s : State} (h : s.inReset = false) (r : Request) (p : List Byte) (f : BlockStep) :
    s.request r .supervisor p f
      = .next ((f .supervisor p s).1.answered r .supervisor p (f .supervisor p s).2) := by
  simp [State.request, State.taking, h, State.unknownSender, State.answered]

/-- A request of a configured client outside reset. -/
theorem State.request_client {s : State} (h : s.inReset = false) (r : Request) (p : List Byte) (c : ClientIx)
    (hc : (s.plant.client c).state ≠ .unset) (f : BlockStep) :
    s.request r (.client c) p f
      = .next ((f (.client c) p s).1.answered r (.client c) p (f (.client c) p s).2) := by
  simp [State.request, State.taking, h, State.unknownSender, State.answered, hc]

theorem Client.active_ne_unset {x : Client} (h : x.state = .active) : x.state ≠ .unset := by simp [h]

/-- A request's answer touches only `returned` and the port. -/
theorem State.answered_frame (s : State) (r : Request) (snd : Sender) (p : List Byte) (b : BlockReply) :
    (s.answered r snd p b).plant = s.plant ∧ (s.answered r snd p b).lim = s.lim
    ∧ (s.answered r snd p b).ctl = s.ctl ∧ (s.answered r snd p b).pins = s.pins
    ∧ (s.answered r snd p b).pending = s.pending := ⟨rfl, rfl, rfl, rfl, rfl⟩

/-! ### Handles -/

theorem slotByte_toNat (i : SlotIx) : (slotByte i).toNat = i.val + 1 := by
  have := i.isLt
  unfold slotByte byte; simp; omega

theorem slotOfNumber_succ (i : SlotIx) : slotOfNumber (i.val + 1) = some i := by
  have := i.isLt
  unfold slotOfNumber; rw [dif_pos (by omega)]; simp

/-- The handle tests pass for the present handle of a non-FREE slot, from its owner or the supervisor (R6). -/
theorem State.handleTest_ok {s : State} {snd : Sender} {i : SlotIx} (rest : List Byte)
    (h1 : (s.plant.allot i).state ≠ .free) (h2 : snd = .supervisor ∨ (s.plant.allot i).owner = clientOf snd) :
    s.handleTest snd ((s.plant.handleOf i).bytes ++ rest) = .ok i := by
  have : byteAt ((s.plant.handleOf i).bytes ++ rest) 0 = i.val + 1 := by
    simp [byteAt, Handle.bytes, Plant.handleOf, slotByte_toNat]
  unfold State.handleTest
  rw [this, slotOfNumber_succ]
  rcases h2 with rfl | h2
  · simp [clientOf, h1, Handle.bytes, Plant.handleOf]
  · simp [h2, h1, Handle.bytes, Plant.handleOf]

/-! ### Fields -/

/-- The two bytes of a 16-bit field written back give the bytes they were read from (R178). -/
theorem word_of_bytes (a b : Byte) : word (256 * a.toNat + b.toNat) = [a, b] := by
  unfold word byte
  congr 1
  · apply BitVec.eq_of_toNat_eq; simp; omega
  · congr 1; apply BitVec.eq_of_toNat_eq; simp; have := b.isLt; omega

@[simp] theorem byte_toNat (b : Byte) : byte b.toNat = b := by simp [byte]

/-! ### Reply slots -/

/-- Keeping a reply writes one sender's slot (R160). -/
theorem Port.slotOf_setSlot (t : Port) (x y : Sender) (v : Option ReplySlot) :
    (t.setSlot x v).slotOf y = if y = x then v else t.slotOf y := by
  cases x with
  | supervisor => cases y <;> simp [Port.setSlot, Port.slotOf]
  | client c =>
    cases y with
    | supervisor => simp [Port.setSlot, Port.slotOf]
    | client d =>
      by_cases h : d = c
      · subst h; simp [Port.setSlot, Port.slotOf]
      · have : c.val ≠ d.val := fun e => h (Fin.ext e.symm)
        simp [Port.setSlot, Port.slotOf, h, this]

/-- A return for the request that was handed over is built, kept and waits to come into hand (R159, R160). -/
theorem Port.takeReturn_handed (t : Port) (h : Handed) (b : BlockReply) (ht : t.handed = some h) :
    t.takeReturn h.request h.sender h.payload b =
      { t.keep h.sender h.frame (replyFrame h.sequence b.status b.payload) with
        handed := none
        built := some (replyFrame h.sequence b.status b.payload)
        restartReply := decide (h.request = .restart ∧ b.status = .ok) } := by
  simp [Port.takeReturn, ht]

/-- With no request handed over a return is none of the port's. -/
theorem Port.takeReturn_none (t : Port) (r : Request) (snd : Sender) (p : List Byte) (b : BlockReply)
    (ht : t.handed = none) : t.takeReturn r snd p b = t := by
  simp [Port.takeReturn, ht]

/-! ### Client releases -/

/-- A client release of a client that owns nothing does nothing (R94). -/
theorem Plant.clientRelease_none {p : Plant} {c : ClientIx} (h : p.ownedBy c = []) (eff : Nat) (o : Origin)
    (r : Bool) : p.clientRelease eff o r c = p := by
  cases hs : p.eng.stage <;> simp [Plant.clientRelease, Plant.releaseClient, h, releaseTrigger, Plant.passIf, hs]

/-! ### Channels in a frame -/

/-- A latched channel is FAULTED at 0, without pulse, tail, phase slot, command identity or due report (R110, R115). -/
theorem Channel.latched_shaped (c : Channel) : c.latched.shaped := by
  simp [Channel.shaped, Channel.latched, Channel.cleared]

/-- A cut keeps a channel's record in agreement with its state (R109, R110). -/
theorem Channel.cut_shaped {c : Channel} (h : c.shaped) : c.cut.shaped := by
  cases hs : c.state <;> simp_all [Channel.shaped, Channel.cut, Channel.cleared]

end Sys2Proof.Machine
end

