-- ==== Sys2Proof/WellFormed.lean ====
section
/-! DEFINITION. Which commands a frame can carry: the payload of a request has at most 19 bytes (10.1).
Every other operand is bounded by its type. -/

namespace Sys2Proof

/-- The payload of a request, none for an event. -/
def Instr.payload? (i : Instr) : Option (List Byte) :=
  match i with
  | .claim _ p | .query _ p | .reshape _ p | .release _ p | .retry _ p | .scan _ p | .join _ p | .leave _ p
  | .ping _ p | .setClient _ p | .setChannel _ p | .setTiming _ p | .clearFault _ p | .setLimits _ p
  | .setClasses _ p | .commit _ p | .halt _ p | .restart _ p => some p
  | .restartReset | .startOwnWrite | .writeByte _ | .writePhaseEnd _ | .replyInHand | .bareRead | .readByteAck _
  | .readPhaseEnd _ | .busError | .exchangeTimerExpiry | .deratenFalls | .deratenRises | .holdExpiry
  | .faultInputActive _ | .faultInputInactive _ | .resetnFalls | .resetnRises | .supplyValid | .supplyFailure
  | .startupEnd | .frameStart | .stepFrameStart | .settledReport _ | .runTimerTenth _ | .runLimitExpiry _
  | .windowExpiry _ | .frameCountAdvance => none

/-- A command is well formed when its payload, if it has one, fits a request frame. -/
def Instr.wf (i : Instr) : Bool :=
  match i.payload? with
  | some p => p.length ≤ Config.maxRequestPayload
  | none => true

end Sys2Proof
end

