-- ==== Sys2Proof/Tests/Slice0.lean ====
section
/-! SUPPORT. The model's own tests: one step each on a small state, with the figures of the spec's worked sequences, and
one witness theorem for every statement of Certificates/Slice0/Obligations.lean that has hypotheses. -/

set_option Elab.async false

namespace Sys2Proof.Tests

open Sys2Proof Sys2Proof.Machine

/-! ### Building states -/

/-- The state an event leads to. -/
def after (i : Instr) (s : State) : State :=
  match exec i s with
  | .next t => t
  | .fault _ => s
  | .refused _ => s

/-- The bytes a payload or a frame is written as. -/
def bytes (l : List Nat) : List Byte := l.map byte

/-- The example configuration of 00_scope section 5.3, committed, with the three clients ACTIVE. -/
def example53 : State :=
  { State.reset with
    ctl := { State.reset.ctl with part := .run }
    lim := { State.reset.lim with configured := 1000, derated := 600, hold := 50, effective := 1000 }
    plant :=
      { eng := { Engine.reset with levels := #v[3, 0, 0, 0, 0, 0] }
        out := { OutputStage.reset with
          channels := Vector.ofFn fun n : Fin 16 => { Channel.reset with
            enabled := true
            rating := if n < 4 then 400 else if n < 8 then 200 else if n < 12 then 100 else 50
            step := if n < 8 then 16 else 32 } }
        clients := ((Plant.reset.clients.set 0
            { Client.reset with id := some 0x21, quota := 900, window := 20, state := .active, timer := some 2000 }).set 1
            { Client.reset with id := some 0x22, quota := 900, window := 20, state := .active, timer := some 2000 }).set 2
            { Client.reset with id := some 0x30, quota := 500, state := .active } } }

/-- A channel that drives `applied` on its way to `target`. -/
def driving (c : Channel) (n : ChannelIx) (applied target : Nat) : Channel :=
  { c with
    applied := applied, target := target, command := some 1, pulse := applied
    phase := if applied = 0 ∧ target = 0 then none else some (Fin.ofNat 8 n.val)
    state := if applied < target then .rise else if target < applied then .fall
      else if applied = 0 then .off else .on }

/-- Add an allotment with its channels, bindings, lists, charge and claimed total. Each term gives channel, requested duty,
applied duty and target duty. -/
def holding (i : SlotIx) (owner : ClientIx) (cls : ClassIx) (ts : List (ChannelIx × Nat × Nat × Nat))
    (floor : Option Nat) (st : AllotState) (charge : Nat) (s : State) : State :=
  let terms : List Term := ts.map fun t => ⟨t.1, t.2.1, t.2.2.2⟩
  let h : Handle := ⟨i, (s.plant.allot i).generation⟩
  let a : Allotment := { s.plant.allot i with
    owner := some owner, cls := cls, terms := terms, floor := s.plant.floorPart terms floor
    requestCost := s.plant.requestCostOf terms, state := st, charge := charge, commandId := 1
    unsettled := (ts.filter fun t => t.2.2.1 ≠ t.2.2.2).map (·.1) }
  let e := s.plant.eng
  let p := (s.plant.setAllot i a).bindTerms terms (some h)
  let p2 : Plant := { p with
    eng := { p.eng with
      queue := if st.queued then e.queue ++ [h] else e.queue
      grants := if st.granted then e.grants ++ [h] else e.grants
      stage := if st = .staged then some h else e.stage
      committed := e.committed + charge }
    out := ts.foldl (fun o t => o.setChan t.1 (driving o.channels[t.1] t.1 t.2.2.1 t.2.2.2)) p.out }
  s.setPlant (p2.adjustClaimed (some owner) a.requestCost 0)

/-- Sections 3.7 and 6.6: three RUNNING allotments. -/
def seq37 : State :=
  holding 2 2 2 [(4, 255, 255, 255)] none .running 200 <|
  holding 1 1 3 [(1, 192, 192, 192)] (some 8) .running 300 <|
  holding 0 0 3 [(0, 192, 192, 192)] (some 8) .running 300 example53

/-- The stage is occupied by slot 4 and slots 1 and 2 fall to REDUCED, channel 0 at its target (3.7, event 2). -/
def staged37 : State :=
  holding 3 0 0 [(2, 255, 0, 0)] none .staged 0 <|
  holding 2 2 2 [(4, 255, 255, 255)] none .running 200 <|
  holding 1 1 3 [(1, 192, 96, 96)] (some 8) (.falling .reduced) 300 <|
  holding 0 0 3 [(0, 192, 96, 96)] (some 8) (.falling .reduced) 300 example53

/-- A report of channel `n` in flight, the one slot `i` waits for. -/
def reporting (n : ChannelIx) (i : SlotIx) (s : State) : State :=
  let p := s.plant
  s.setPlant { p.setAllot i { p.allot i with unsettled := [n] } with
    out := { p.out with reports := [⟨n, some (p.allot i).commandId, (p.chan n).applied⟩] } }

/-- Put the part in SETUP. -/
def inSetup (s : State) : State := { s.setPart .setup with lim := { s.lim with effective := 0 } }

/-- The part after reset with one client ACTIVE and channel 3 enabled, in SETUP. -/
def setup : State :=
  { State.reset with
    lim := { State.reset.lim with configured := 1000, derated := 600, hold := 50 }
    plant := (Plant.reset.setChan 3 { Channel.reset with enabled := true, rating := 400 }).setClient 1
      { Client.reset with id := some 0x22, quota := 900, window := 20, state := .active, timer := some 2000 } }

/-- Give the port a state. -/
def withPort (s : State) (f : Port → Port) : State := s.setPort (f s.port)

/-! ### The shape of commands -/

/-- A payload of 20 bytes fits no request frame (10.1); one of 19 does. -/
theorem test_wf_refuses_a_payload_of_20_bytes :
    (Instr.claim (.client 0) (List.replicate 20 0)).wf = false
    ∧ (Instr.claim (.client 0) (List.replicate 19 0)).wf = true ∧ Instr.frameStart.wf = true := by decide

/-- The table gives no row bits, so no word spells a command. -/
theorem test_decode_no_word : decodeTableWord 0 0 = none ∧ decodeTableWord 8 1 = none := by decide

/-! ### Costs, codes and frames -/

/-- 00_scope section 5.3, and section 1.3.1: channel 4 at 200 costs 157. -/
theorem test_cost_figures : costAt 400 128 = 200 ∧ costAt 100 100 = 40 ∧ costAt 200 200 = 157 ∧ costAt 1023 255 = 1020 := by
  decide

/-- The length byte of the CLAIM of 10.7.1 and a damaged frame: the frame check passes only the whole frame. -/
theorem test_frame_check_of_1071 :
    frameCheckOk (withCheck (bytes [0x21, 0x11, 1, 5, 2, 1, 0, 0, 0x80])) false = true
    ∧ frameCheckOk (withCheck (bytes [0x21, 0x11, 1, 4, 2, 1, 0, 0, 0x80])) false = false
    ∧ frameCheckOk (withCheck (bytes [0x21, 0x11, 1, 5, 2, 1, 0, 0, 0x80])) true = false := by decide +kernel

/-- The table of section 5.3: slot 3 at duty 160 is high from 96 to 255; slot 0 at duty 200 from 0 to 199. -/
theorem test_pulse_placement :
    let c : Channel := { Channel.reset with phase := some 3, pulse := 160 }
    let d : Channel := { Channel.reset with phase := some 0, pulse := 200 }
    c.gateAt 95 = false ∧ c.gateAt 96 = true ∧ c.gateAt 255 = true ∧ d.gateAt 0 = true ∧ d.gateAt 199 = true
    ∧ d.gateAt 200 = false := by decide

/-- Section 5.8, event 1: with loads 400, 200, 400, 200, 100, 100, 50, 50 the channels 14, 15 and 10 of one command are
placed in slots 6, 7 and 4. -/
theorem test_phase_placement_of_58 :
    let on := fun (o : OutputStage) (x : ChannelIx × PhaseIx) =>
      o.setChan x.1 { o.channels[x.1] with state := .on, applied := 32, target := 32, phase := some x.2 }
    let o := [((0 : ChannelIx), (0 : PhaseIx)), (4, 1), (1, 2), (5, 3), (8, 4), (9, 5), (12, 6), (13, 7)].foldl on
      example53.plant.out
    let q := o.command [⟨14, 128, 0⟩, ⟨15, 128, 0⟩, ⟨10, 128, 0⟩] (·.requested) 1
    q.channels[14].phase = some 6 ∧ q.channels[15].phase = some 7 ∧ q.channels[10].phase = some 4 := by decide +kernel

/-! ### Requests on allotments -/

/-- Section 3.7, event 1: the claim stages slot 4 and reduces slots 2 and 1; their flags are set, slot 4's is clear. -/
theorem test_claim_reduces_two_victims :
    let t := after (.claim (.client 0) (bytes [0, 1, 0, 2, 255])) seq37
    t.returned = some (.okWith [4, 0, 2]) ∧ (t.plant.allot 3).state = .staged ∧ t.plant.eng.stage = some ⟨3, 0⟩
    ∧ (t.plant.allot 0).state = .falling .reduced ∧ (t.plant.allot 1).state = .falling .reduced
    ∧ (t.plant.chan 1).target = 96 ∧ t.plant.eng.committed = 800 ∧ (t.plant.client 0).claimed = 699
    ∧ (t.plant.allot 0).changed = true ∧ (t.plant.allot 3).changed = false := by decide +kernel

/-- Section 1.7.1, event 4: a bound channel is refused before the quota is looked at. -/
theorem test_claim_channel_held :
    (after (.claim (.client 2) (bytes [2, 1, 0, 1, 64])) seq37).returned = some ⟨.channelHeld, [1]⟩ := by decide +kernel

/-- QUERY by the owner returns the record and clears its flag. -/
theorem test_query_clears_the_flag :
    let s := seq37.setPlant (seq37.plant.markChanged .other 2)
    let t := after (.query (.client 2) [3, 0]) s
    (t.plant.allot 2).changed = false
    ∧ t.returned = some (.okWith (bytes [3, 0, 3, 0x30, 2, 4, 255, 0, 1, 0, 0, 200, 0, 200, 1, 4, 255, 255, 255, 2])) := by
  decide +kernel

/-- Section 4.4.1, with the other allotments at 540: RISING with charge 407, committed 947, claimed 329. -/
theorem test_reshape_of_441 :
    let s := holding 1 0 3 [(0, 128, 128, 128), (4, 200, 200, 200)] (some 8) .running 357 example53
    let s1 := s.setPlant { s.plant with eng := { s.plant.eng with committed := 897 } }
    let t := after (.reshape (.client 0) (bytes [2, 0, 160, 100])) s1
    t.returned = some (.okWith (bytes [2, 0, 3, 255, 1, 73, 0, 165, 1, 151])) ∧ (t.plant.allot 1).charge = 407
    ∧ t.plant.eng.committed = 947 ∧ (t.plant.client 0).claimed = 329 := by decide +kernel

/-- Section 4.4.1, with the other allotments at 600: NO_ROOM with increase 50 and budget 43. -/
theorem test_reshape_no_room :
    let s := holding 1 0 3 [(0, 128, 128, 128), (4, 200, 200, 200)] (some 8) .running 357 example53
    let s1 := s.setPlant { s.plant with eng := { s.plant.eng with committed := 957 } }
    (after (.reshape (.client 0) (bytes [2, 0, 160, 100])) s1).returned = some ⟨.noRoom, [0, 50, 0, 43]⟩ := by
  decide +kernel

/-- RELEASE of a RUNNING allotment falls to FREE at the charge it holds (R89). -/
theorem test_release_running :
    let t := after (.release (.client 0) [1, 0]) seq37
    (t.plant.allot 0).state = .falling .free ∧ (t.plant.allot 0).charge = 300 ∧ (t.plant.allot 0).changed = false
    ∧ t.returned = some (.okWith (bytes [1, 0, 6, 0, 1, 44])) := by decide +kernel

/-- RETRY of a TRIPPED allotment whose channel's input is active again: CHANNEL_FAULT with the channel (R125). -/
theorem test_retry_input_active :
    let s := (holding 0 0 3 [(0, 192, 0, 0)] none .tripped 0 example53).setFaultLow 0 true
    let s1 := s.setPlant (s.plant.setChan 0 (s.plant.chan 0).latched)
    (after (.retry (.client 0) [1, 0]) s1).returned = some ⟨.channelFault, [0]⟩
    ∧ (after (.retry (.client 0) [1, 0]) (s1.setFaultLow 0 false)).returned = some (.okWith [1, 0, 3]) := by
  decide +kernel

/-- A supervisor's SCAN of section 3.7's start lists the three allotments in slot order (R180). -/
theorem test_scan_of_the_supervisor :
    (after (.scan .supervisor []) seq37).returned = some (.okWith (bytes
      [3, 1, 0, 0x13, 0x4F, 1, 44, 0, 2, 0, 0x23, 0x4F, 1, 44, 0, 3, 0, 0x32, 0x4F, 0, 200, 0])) := by decide +kernel

/-- Section 3.1.1: the queue of slots 7, 4, 9, 2, 6 is regrouped to 2, 6, 4, 9, 7 (stage occupied, so no pass moves it). -/
theorem test_setClasses_of_311 :
    let s := holding 9 0 0 [(9, 1, 0, 0)] none .staged 0 <| holding 5 0 4 [(4, 2, 1, 1)] (some 8) .reduced 1 <|
      holding 1 0 4 [(3, 1, 0, 0)] none .waiting 0 <| holding 8 0 2 [(2, 1, 0, 0)] none .waiting 0 <|
      holding 3 0 2 [(1, 2, 1, 1)] (some 8) .reduced 2 <| holding 6 0 1 [(0, 1, 0, 0)] none .waiting 0 example53
    let t := after (.setClasses .supervisor [3, 0, 1, 0, 2, 0]) s
    s.plant.eng.queue.map (·.slot) = [6, 3, 8, 1, 5] ∧ t.plant.eng.queue.map (·.slot) = [1, 5, 3, 8, 6]
    ∧ t.returned = some (.okWith [3, 0, 1, 0, 2, 0, 0, 4, 2, 1, 3, 5]) := by decide +kernel

/-! ### Clients -/

/-- JOIN reads the retired count into its reply and clears it. -/
theorem test_join_reads_the_retired_count :
    let s := example53.setPlant (example53.plant.setClient 0 { example53.plant.client 0 with
      state := .lapsed, timer := none, retired := 3 })
    let t := after (.join (.client 0) []) s
    t.returned = some (.okWith (bytes [0, 3, 3, 132, 20, 0, 0])) ∧ (t.plant.client 0).state = .active
    ∧ (t.plant.client 0).retired = 0 ∧ (t.plant.client 0).timer = some 2000 := by decide +kernel

/-- LEAVE starts the falls of the client's allotments, flags and retires none. -/
theorem test_leave_releases :
    let t := after (.leave (.client 0) []) seq37
    t.returned = some (.okWith (bytes [1, 1, 44])) ∧ (t.plant.client 0).state = .idle
    ∧ (t.plant.allot 0).state = .falling .free ∧ (t.plant.allot 0).changed = false
    ∧ (t.plant.client 0).retired = 0 := by decide +kernel

/-- PING of a client (10.4). -/
theorem test_ping_of_a_client :
    (after (.ping (.client 2) []) seq37).returned
      = some (.okWith (bytes [3, 0x30, 1, 1, 244, 0, 0, 200, 1, 0, 0, 0])) := by decide +kernel

/-- SET_CLIENT in RUN: a change below the claimed total is QUOTA_IN_USE, an add NOT_SETUP. -/
theorem test_setClient_in_run :
    (after (.setClient .supervisor (bytes [1, 0x21, 1, 43, 20, 0])) seq37).returned = some (.bare .quotaInUse)
    ∧ (after (.setClient .supervisor (bytes [1, 0x21, 1, 44, 20, 0])) seq37).returned
      = some (.okWith (bytes [1, 0x21, 1, 44, 20, 0, 2, 1, 44, 0]))
    ∧ (after (.setClient .supervisor (bytes [4, 0x31, 1, 43, 20, 0])) seq37).returned = some (.bare .notSetup) := by
  decide +kernel

/-- Section 7.9, event 1: 21h's window expires. -/
theorem test_windowExpiry_of_79 :
    let s := holding 3 0 2 [(12, 128, 64, 128)] none .rising 25 <|
      holding 2 0 3 [(5, 255, 0, 0), (8, 255, 0, 0), (9, 255, 0, 0)] none .waiting 0 <|
      holding 1 0 2 [(0, 192, 192, 192)] none .running 300 <|
      holding 0 1 1 [(1, 255, 255, 255)] none .running 399 example53
    let t := after (.windowExpiry 0) s
    t.plant.eng.committed = 712 ∧ (t.plant.client 0).claimed = 325 ∧ (t.plant.client 0).retired = 3
    ∧ (t.plant.client 0).state = .lapsed ∧ (t.plant.allot 2).state = .free ∧ (t.plant.allot 2).generation = 1
    ∧ (t.plant.allot 3).charge = 13 ∧ t.plant.attention 0 = true ∧ t.alertLow = false := by decide +kernel

/-! ### The output stage -/

/-- SET_CHANNEL enabling a channel onto an active input latches it (R98). -/
theorem test_setChannel_onto_a_fault :
    (after (.setChannel .supervisor (bytes [7, 1, 0, 200, 16])) (setup.setFaultLow 7 true)).returned
      = some (.okWith (bytes [7, 1, 0, 200, 16, 4])) := by decide +kernel

/-- SET_TIMING of 16 kHz and 8 ms: 128 frames per interval (R103). -/
theorem test_setTiming_frames :
    (after (.setTiming .supervisor [0, 3]) setup).returned = some (.okWith (bytes [0, 3, 128])) := by decide +kernel

/-- CLEAR_FAULT of a channel whose input is still active. -/
theorem test_clearFault_active :
    let s := (setup.setFaultLow 3 true).setPlant (setup.plant.setChan 3 (setup.plant.chan 3).latched)
    (after (.clearFault .supervisor [3]) s).returned = some ⟨.channelFault, [3, 4, 1, 0, 0]⟩ := by decide +kernel

/-- A frame start that is a step frame start: a rise is clamped at its target, settles and reports (R104, R107). -/
theorem test_frameStart_clamps_and_reports :
    let s := (holding 0 0 3 [(0, 200, 192, 200)] none .rising 313 example53).onOutput fun o => { o with rampCounter := 1 }
    let t := after .frameStart s
    (t.plant.chan 0).applied = 200 ∧ (t.plant.chan 0).state = .on ∧ t.plant.out.rampCounter = 4
    ∧ t.plant.out.reports = [⟨0, some 1, 200⟩] := by decide +kernel

/-- From reset the step frame start is the fourth frame start. -/
theorem test_stepFrameStart_is_the_fourth :
    let s := holding 0 0 3 [(0, 200, 0, 200)] none .rising 313 example53
    ((after .stepFrameStart s).plant.chan 0).applied = 16
    ∧ after .stepFrameStart s = after .frameStart (after .frameStart (after .frameStart (after .frameStart s))) := by
  decide +kernel

/-- After count 255 the frame counter returns to 0, which is a frame start (R99). -/
theorem test_frameCountAdvance_wraps :
    let s := example53.onOutput fun o => { o with frameCount := 255 }
    (after .frameCountAdvance s).plant.out.frameCount = 0 ∧ (after .frameCountAdvance s).plant.out.rampCounter = 3
    ∧ (after .frameCountAdvance example53).plant.out.frameCount = 1 := by decide +kernel

/-- Section 6.6's event: a fault on a RUNNING allotment trips it and gives its charge back. -/
theorem test_faultInputActive_trips :
    let t := after (.faultInputActive 0) seq37
    (t.plant.allot 0).state = .tripped ∧ t.plant.eng.committed = 500 ∧ (t.plant.chan 0).state = .faulted
    ∧ t.plant.eng.grants.map (·.slot) = [1, 2] := by decide +kernel

/-- An input going inactive clears no latch (R114). -/
theorem test_faultInputInactive_keeps_the_latch :
    ((after (.faultInputInactive 0) (after (.faultInputActive 0) seq37)).plant.chan 0).state = .faulted := by
  decide +kernel

/-! ### The limit unit -/

/-- SET_LIMITS in RUN: the ceiling follows at once, and the reply shows it (R32). -/
theorem test_setLimits_reply :
    (after (.setLimits .supervisor (bytes [3, 32, 2, 88, 10])) seq37).returned
      = some (.okWith (bytes [3, 32, 2, 88, 10, 0, 3, 32, 3, 32])) := by decide +kernel

/-- Section 2.7, event 1: DERATEn falls, slot 3 is freed, slot 2 is cut to the front of its rank, slot 1 stays. -/
theorem test_deratenFalls_of_27 :
    let s := holding 2 2 2 [(5, 128, 64, 0)] none (.falling .free) 100 <|
      holding 1 0 3 [(0, 128, 128, 128), (4, 200, 200, 200)] (some 8) .running 357 <|
      holding 0 1 0 [(1, 255, 255, 255)] none .running 399 example53
    let t := after .deratenFalls s
    t.lim.effective = 600 ∧ t.plant.eng.committed = 399 ∧ t.plant.eng.grants = [⟨0, 0⟩] ∧ t.plant.eng.queue = [⟨1, 0⟩]
    ∧ (t.plant.allot 2).generation = 1 ∧ (t.plant.client 2).claimed = 0 ∧ t.plant.attention 0 = true
    ∧ t.plant.attention 2 = false ∧ (t.plant.chan 4).state = .off := by decide +kernel

/-- Section 2.7, events 2 and 3: a rise starts the hold of 500 ms, a fall in HOLDING cancels it. -/
theorem test_deratenRises_starts_the_hold :
    let s := after .deratenFalls example53
    let t := after .deratenRises s
    t.lim.derate = .holding ∧ t.lim.holdTimer = some 500 ∧ t.lim.effective = 600
    ∧ (after .deratenFalls t).lim.holdTimer = none ∧ (after .deratenFalls t).lim.derate = .derated := by decide +kernel

/-- The hold's expiry brings the configured ceiling back (R29). -/
theorem test_holdExpiry_restores :
    let t := after .holdExpiry (after .deratenRises (after .deratenFalls example53))
    t.lim.derate = .normal ∧ t.lim.effective = 1000 ∧ t.lim.holdTimer = none := by decide +kernel

/-! ### Settling and run limits -/

/-- Section 3.7, event 2, the second report: slot 2 settles, the stage resolves, slot 4 rises; no top-up fits. -/
theorem test_settledReport_resolves_the_stage :
    let s0 := holding 3 0 0 [(2, 255, 0, 0)] none .staged 0 <| holding 2 2 2 [(4, 255, 255, 255)] none .running 200 <|
      holding 1 1 3 [(1, 192, 96, 96)] (some 8) (.falling .reduced) 300 <|
      holding 0 0 3 [(0, 192, 96, 96)] (some 8) .reduced 150 example53
    let t := after (.settledReport 1) (reporting 1 1 s0)
    t.plant.eng.queue = [⟨0, 0⟩, ⟨1, 0⟩] ∧ t.plant.eng.stage = none ∧ t.plant.eng.committed = 899
    ∧ t.plant.eng.grants.map (·.slot) = [0, 1, 2, 3] ∧ (t.plant.allot 3).state = .rising
    ∧ (t.plant.allot 3).changed = true ∧ (t.plant.allot 1).state = .reduced := by decide +kernel

/-- A report with another command identity is discarded (R72). -/
theorem test_settledReport_stale :
    let s0 := holding 0 0 3 [(0, 192, 192, 192)] none .rising 300 example53
    let s1 := reporting 0 0 s0
    let s2 := s1.setPlant (s1.plant.setAllot 0 { s1.plant.allot 0 with commandId := 2 })
    ((after (.settledReport 0) s2).plant.allot 0).state = .rising
    ∧ ((after (.settledReport 0) s1).plant.allot 0).state = .running
    ∧ (after (.settledReport 0) s2).plant.out.reports = [] := by decide +kernel

/-- A slot with a run limit of `n` tenths left. -/
def running (n : Nat) : State :=
  let s := holding 0 0 3 [(0, 192, 192, 192)] none .running 300 example53
  s.setPlant (s.plant.setAllot 0 { s.plant.allot 0 with run := some ⟨600, n, 0⟩ })

/-- A tenth counts down. -/
theorem test_runTimerTenth_counts :
    ((after (.runTimerTenth 0) (running 412)).plant.allot 0).run = some ⟨600, 411, 0⟩
    ∧ ((after (.runTimerTenth 0) (running 1)).plant.allot 0).state = .falling .free := by decide +kernel

/-- The expiry starts a fall to FREE, flagged and retired (R78). -/
theorem test_runLimitExpiry_retires :
    let t := after (.runLimitExpiry 0) (running 1)
    (t.plant.allot 0).state = .falling .free ∧ (t.plant.allot 0).changed = true ∧ (t.plant.client 0).retired = 1
    ∧ (t.plant.allot 0).run = some ⟨600, 0, 0⟩ := by decide +kernel

/-! ### The control unit -/

/-- COMMIT's reply counts enabled channels, FAULTED ones and clients. -/
theorem test_commit_reply :
    (after (.commit .supervisor []) setup).returned = some (.okWith (bytes [1, 0, 3, 232, 1, 0, 1]))
    ∧ (after (.commit .supervisor []) setup).lim.effective = 1000 := by decide +kernel

/-- HALT frees three allotments and retires them. -/
theorem test_halt_frees :
    let t := after (.halt .supervisor []) seq37
    t.returned = some (.okWith [0, 3, 3]) ∧ t.plant.eng.committed = 0 ∧ t.ctl.part = .setup
    ∧ (t.plant.allot 0).generation = 1 ∧ (t.plant.client 0).retired = 1 ∧ (t.plant.chan 0).state = .off := by
  decide +kernel

/-- R172: a report made before HALT is discarded; with the report still waiting the channel would settle the same slot of
another generation, whose next command carries the same identity. -/
theorem test_halt_discards_reports :
    let s := reporting 0 0 seq37
    s.plant.out.reports = [⟨0, some 1, 192⟩] ∧ (after (.halt .supervisor []) s).plant.out.reports = []
    ∧ (after (.release (.client 0) [1, 0]) s).plant.out.reports = []
    ∧ (after (.release (.client 1) [2, 0]) s).plant.out.reports = s.plant.out.reports := by decide +kernel

/-- RESTART only sets restart pending. -/
theorem test_restart_pends :
    let t := after (.restart .supervisor []) seq37
    t.ctl.restartPending = true ∧ t.plant = seq37.plant ∧ t.returned = some (.okWith [1]) := by decide +kernel

/-- The reset RESTART ordered. -/
theorem test_restartReset_resets :
    let t := after .restartReset (after (.restart .supervisor []) seq37)
    t.ctl.cause = .restart ∧ t.plant = Plant.reset ∧ t.ctl.part = .setup := by decide +kernel

/-- RESETn asserts and ends a reset with cause RESET_PIN. -/
theorem test_resetn_pair :
    let t := after .resetnFalls seq37
    t.inReset = true ∧ t.plant = Plant.reset ∧ (after .resetnRises t).ctl.cause = .resetPin
    ∧ (after .resetnRises t).inReset = false := by decide +kernel

/-- A supply failure, its return and the end of start-up, with the straps at 5Ah and DERATEn low. -/
theorem test_power_on :
    let s := { seq37 with pins := { seq37.pins with strapA1 := true, derateLow := true } }
    let t := after .supplyValid (after .supplyFailure s)
    t.inReset = true ∧ (after .startupEnd t).ctl.cause = .powerOn ∧ (after .startupEnd t).port.address = 0x5A
    ∧ (after .startupEnd t).lim.derate = .derated ∧ (after .startupEnd t).inReset = false := by decide +kernel

/-! ### The exchange port -/

/-- The CLAIM frame of section 10.7.1. -/
def claimFrame : List Byte := withCheck (bytes [0x21, 0x11, 1, 5, 2, 1, 0, 0, 0x80])

/-- The part in RX with the CLAIM frame of 10.7.1 in its buffer. -/
def received : State :=
  withPort example53 fun t => { t with state := .rx, buffer := claimFrame, timer := some 50 }

/-- The request of the frame has been handed to the engine. -/
def handedOver : State := after (.writePhaseEnd .restartRead) received

/-- START with the own address in IDLE. -/
theorem test_startOwnWrite :
    let t := after .startOwnWrite example53
    t.port.state = .rx ∧ t.port.timer = some 50 ∧ t.port.acked = true := by decide +kernel

/-- The 24th byte is stored, the 25th is not acknowledged (R148). -/
theorem test_writeByte_25th :
    let s := withPort example53 fun t => { t with state := .rx, buffer := List.replicate 23 0 }
    let t := after (.writeByte 7) s
    t.port.buffer.length = 24 ∧ t.port.acked = true ∧ (after (.writeByte 8) t).port.buffer.length = 24
    ∧ (after (.writeByte 8) t).port.overLength = true ∧ (after (.writeByte 8) t).port.acked = false := by decide +kernel

/-- Section 10.7.1: the frame is handed to the engine with its sender, payload and number. -/
theorem test_writePhaseEnd_dispatches :
    handedOver.port.state = .exec ∧ handedOver.port.handed.map (·.sender) = some (.client 0)
    ∧ handedOver.port.handed.map (·.request) = some .claim
    ∧ handedOver.port.handed.map (·.payload) = some (bytes [2, 1, 0, 0, 0x80])
    ∧ handedOver.port.sclLow = true ∧ (handedOver.plant.client 0).timer = some 2000 := by decide +kernel

/-- Section 8.10: the same frame again is answered from the reply slot and carried out nowhere. -/
theorem test_writePhaseEnd_repeat :
    let done := after .replyInHand (after (.claim (.client 0) (bytes [2, 1, 0, 0, 0x80])) handedOver)
    let again := withPort done fun t => { t with state := .rx, buffer := claimFrame }
    (after (.writePhaseEnd .restartRead) again).port.inHand = done.port.inHand
    ∧ (after (.writePhaseEnd .restartRead) again).port.handed = none := by decide +kernel

/-- Section 10.7.1: the reply names handle (1, 0) and RISING, 7 bytes. -/
theorem test_replyInHand_of_1071 :
    let t := after .replyInHand (after (.claim (.client 0) (bytes [2, 1, 0, 0, 0x80])) handedOver)
    t.port.inHand = some (withCheck (bytes [0x11, 0, 3, 1, 0, 3])) ∧ t.port.state = .tx
    ∧ t.port.sendingByte = some 0x11 := by decide +kernel

/-- A bare read from IDLE sends a summary frame (10.6). -/
theorem test_bareRead_summary :
    (after .bareRead seq37).port.inHand
      = some (withCheck (bytes [0, 0, 12, 1, 1, 0, 3, 232, 3, 32, 0, 0, 3, 0, 0])) := by decide +kernel

/-- Past the last byte the filler is sent (R151). -/
theorem test_readByteAck_filler :
    let s := withPort example53 fun t => { t with state := .tx, inHand := some [1, 2], position := 1 }
    s.port.sendingByte = some 2 ∧ (after (.readByteAck true) s).port.sendingByte = some 0xFF
    ∧ (after (.readByteAck false) s).port.sendingByte = none := by decide +kernel

/-- The end of a read phase by STOP. -/
theorem test_readPhaseEnd_stop :
    let s := withPort example53 fun t => { t with state := .tx, inHand := some [1, 2], timer := some 50 }
    (after (.readPhaseEnd .stop) s).port.state = .idle ∧ (after (.readPhaseEnd .stop) s).port.timer = none := by
  decide +kernel

/-- A bus error in RX discards the frame (R162). -/
theorem test_busError_discards :
    (after .busError received).port.state = .idle ∧ (after .busError received).port.buffer = [] := by decide +kernel

/-- The exchange timer in EXEC: the port is IDLE, the request stays with its block (R163). -/
theorem test_exchangeTimerExpiry_in_exec :
    (after .exchangeTimerExpiry handedOver).port.state = .idle
    ∧ (after .exchangeTimerExpiry handedOver).port.handed = handedOver.port.handed := by decide +kernel

/-! ### Witnesses: a concrete state and operands that meet the hypotheses of each statement -/

/-- An allotment in each state but FREE, part of the way through section 3.7, with a report the engine takes next. -/
def busy : State :=
  { reporting 1 1 (
      holding 6 0 1 [(13, 9, 0, 0)] none .tripped 0 <| holding 5 1 1 [(12, 128, 64, 128)] none .rising 25 <|
      holding 4 2 5 [(8, 7, 0, 0)] none .waiting 0 <| holding 3 0 0 [(2, 255, 0, 0)] none .staged 0 <|
      holding 2 2 2 [(4, 255, 255, 255)] none .running 200 <|
      holding 1 1 3 [(1, 192, 96, 96)] (some 8) (.falling .reduced) 300 <|
      holding 0 0 3 [(0, 192, 96, 96)] (some 8) .reduced 150 example53) with
    pending := [.settledReport 1, .frameStart] }

theorem witness_StepRunsTheFrontCommand : busy.pending ≠ [] ∧ State.reset.pending = [] := by decide +kernel

theorem witness_PartHeldInResetTakesNoEvent :
    (after .resetnFalls seq37).inReset = true ∧ (after .supplyFailure seq37).inReset = true
    ∧ isResetEvent .frameStart = false ∧ isResetEvent .deratenFalls = false ∧ isResetEvent (.faultInputActive 15) = false
    ∧ isResetEvent (.faultInputInactive 0) = false := by decide +kernel

/-- A step of the busy state answers a next state, and a different one. -/
theorem busy_steps : ∃ t, step busy = .next t ∧ (t.plant.allot 1).state = .reduced ∧ t.plant.eng.stage = none := by
  refine ⟨_, rfl, ?_⟩; decide +kernel

theorem witness_CommittedStaysTheSumOfCharges : busy.plant.accountsAgree := by
  unfold Plant.accountsAgree Plant.freeRecordsClear; decide +kernel

theorem witness_BindingMapStaysExact : busy.plant.freeRecordsClear ∧ busy.plant.bindingExact := by
  unfold Plant.freeRecordsClear Plant.bindingExact Plant.names Plant.current; decide +kernel

theorem witness_QueueGrantsAndStageStayExact : busy.plant.listsExact ∧ busy.plant.queueOrdered := by
  unfold Plant.listsExact Plant.lists Plant.stageExact Plant.stageCurrent Plant.queueOrdered; decide +kernel

theorem witness_SettledChargesStayAsTheirStatesSay : busy.plant.chargeLaw := by
  unfold Plant.chargeLaw Allotment.chargeFits; decide +kernel

theorem witness_SetupStaysQuiet : busy.outputsSound ∧ setup.outputsSound ∧ setup.ctl.part = .setup := by
  unfold State.outputsSound Channel.shaped Plant.quiet
  refine ⟨⟨?_, ?_⟩, ⟨?_, ?_⟩, ?_⟩ <;> decide +kernel

theorem witness_ClaimedTotalsStaySums : busy.outputsSound ∧ busy.plant.claimedLaw :=
  ⟨witness_SetupStaysQuiet.1, by unfold Plant.claimedLaw Plant.freeRecordsClear; decide +kernel⟩

/-- In HOLDING, with a hold timer. -/
def held : State := after .deratenRises (after .deratenFalls seq37)

theorem witness_LimitUnitStaysSound :
    (busy.ceilingSound ∧ busy.derateSound) ∧ held.ceilingSound ∧ held.derateSound ∧ held.lim.derate = .holding := by
  unfold State.ceilingSound State.derateSound; decide +kernel

theorem witness_ClientRecordsStayShaped : ∀ c, (busy.plant.client c).shaped := by
  unfold Client.shaped; decide +kernel

/-- IDLE, RX and EXEC; an address byte held for a write and for a bare read. -/
theorem witness_ExchangePortStaysShaped :
    busy.port.shaped ∧ received.port.shaped ∧ handedOver.port.shaped
    ∧ (let t := (after (.writePhaseEnd .restartWrite) received).port; t.shaped ∧ t.held = some .write)
    ∧ (let t := (after .bareRead (after (.writePhaseEnd .stop) received)).port; t.shaped ∧ t.held = some .read) := by
  unfold Port.shaped
  refine ⟨?_, ?_, ?_, ?_, ?_⟩ <;> decide +kernel

theorem witness_FrameAndRampCountersStayInRange : busy.plant.out.countersInRange := by
  unfold OutputStage.countersInRange; decide +kernel

/-- An accepted RESTART with its exchange in the port state given, its reply in hand or being sent. -/
def restarting (st : PortState) : State :=
  withPort (after (.restart .supervisor []) seq37) fun t => { t with
    state := st, restartReply := true, timer := some 50, inHand := some [1], built := some [1], handling := true }

theorem witness_EveryResetEndsWithTheResetValues :
    (let s := after .resetnFalls seq37;
      s.pins.resetnHigh = false ∧ s.pins.supplyOk = true ∧ s.ctl.powerOnPending = false)
    ∧ (let s := after .supplyValid (after .supplyFailure seq37);
      s.pins.supplyOk = true ∧ s.pins.resetnHigh = true ∧ s.ctl.powerOnPending = true)
    ∧ (let s := after (.restart .supervisor []) seq37;
      s.inReset = false ∧ s.ctl.restartPending = true ∧ s.port.restartReply = false)
    ∧ ∀ st ∈ [PortState.idle, .rx, .exec, .tx, .summary], (restarting st).inReset = false
      ∧ (restarting st).ctl.restartPending = true ∧ (restarting st).port.restartReply = true
      ∧ (restarting st).port.state = st ∧ (restarting st).port.held = none
      ∧ (restarting st).port.timer.isSome = true ∧ (restarting st).port.built.isSome = true := by decide +kernel

/-- A part at work; RESETn low during start-up, and before the supply is valid. -/
theorem witness_AssertedResetSilencesThePart :
    (busy.pins.resetnHigh = true ∧ busy.pins.supplyOk = true)
    ∧ (let s := after .resetnFalls (after .supplyFailure busy);
      s.pins.resetnHigh = false ∧ s.pins.supplyOk = false
      ∧ (after .supplyValid s).pins.resetnHigh = false ∧ (after .supplyValid s).ctl.powerOnPending = true
      ∧ (after .supplyValid s).pins.supplyOk = true) := by
  decide +kernel

/-- A refusal, and a RETRY refused with another status than CHANNEL_FAULT. -/
theorem witness_RefusedRequestChangesNothing :
    requestOf (.claim (.client 2) [9]) = some (.claim, .client 2, [9]) ∧ seq37.inReset = false
    ∧ (∃ t, exec (.claim (.client 2) [9]) seq37 = .next t ∧ t.returned = some (.bare .badLength))
    ∧ ∃ t, exec (.retry (.client 2) [3, 0]) seq37 = .next t ∧ t.returned = some (.bare .wrongState) := by
  refine ⟨rfl, by decide +kernel, ⟨_, rfl, by decide +kernel⟩, _, rfl, by decide +kernel⟩

theorem witness_SenderAndPartStateGateTheRequests :
    (seq37.inReset = false ∧ (seq37.plant.client 0).state ≠ .unset ∧ seq37.ctl.part = .run)
    ∧ setup.inReset = false ∧ (setup.plant.client 1).state ≠ .unset ∧ setup.ctl.part = .setup := by decide +kernel

/-! #### The budget -/

/-- Whether the budget of a state is kept can be computed. -/
def budgetDec (s : State) : Decidable s.budgetSound := by
  letI d1 (i) : Decidable (s.plant.recordSound i) := by delta Plant.recordSound; exact inferInstance
  letI d2 (i) : Decidable (s.plant.dutiesSound i) := by delta Plant.dutiesSound; exact inferInstance
  letI d3 (c : Channel) : Decidable c.shaped := by delta Channel.shaped; exact inferInstance
  letI d4 (a : Allotment) : Decidable a.chargeFits := by delta Allotment.chargeFits; exact inferInstance
  letI d5 (h) : Decidable (s.plant.current h) := by delta Plant.current; exact inferInstance
  letI d6 (l f) : Decidable (s.plant.lists l f) := by delta Plant.lists; exact inferInstance
  letI d7 : Decidable s.plant.quiet := by delta Plant.quiet; exact inferInstance
  letI d8 : Decidable s.ceilingSound := by delta State.ceilingSound; exact inferInstance
  letI d9 : Decidable s.derateSound := by delta State.derateSound; exact inferInstance
  letI d10 : Decidable s.plant.accountsAgree := by delta Plant.accountsAgree Plant.freeRecordsClear; exact inferInstance
  letI d11 : Decidable s.plant.unboundAtRest := by delta Plant.unboundAtRest; exact inferInstance
  letI d12 : Decidable s.plant.bindingExact := by delta Plant.bindingExact Plant.names; exact inferInstance
  letI d13 : Decidable s.plant.listsExact := by delta Plant.listsExact Plant.stageExact Plant.stageCurrent; exact inferInstance
  letI d14 : Decidable s.plant.queueOrdered := by delta Plant.queueOrdered; exact inferInstance
  letI d15 : Decidable s.plant.chargeLaw := by delta Plant.chargeLaw; exact inferInstance
  letI d16 : Decidable s.outputsSound := by delta State.outputsSound; exact inferInstance
  letI d17 : Decidable s.plant.reportsHonest := by delta Plant.reportsHonest; exact inferInstance
  delta State.budgetSound
  exact inferInstance

theorem budget_of (s : State) (h : @decide _ (budgetDec s) = true) : s.budgetSound := @of_decide_eq_true _ (budgetDec s) h

/-- The busy state, with an honest report that the engine takes next. -/
theorem witness_CommittedStaysWithinTheCeiling : busy.budgetSound ∧ busy.plant.out.reports ≠ [] :=
  ⟨budget_of _ (by decide +kernel), by decide +kernel⟩

/-- Client slot 1 has lapsed with one allotment falling to FREE; client slot 2 is ACTIVE with others. -/
def lapsed : State := after (.windowExpiry 0) seq37

theorem witness_AbsentClientsOwnOnlyFallsToFree :
    lapsed.plant.absentOnlyFall ∧ lapsed.plant.listsExact ∧ lapsed.plant.queueOrdered ∧ lapsed.outputsSound
    ∧ (lapsed.plant.client 0).state = .lapsed ∧ (lapsed.plant.allot 0).state = .falling .free
    ∧ (lapsed.plant.allot 0).owner = some 0 := by
  have h : lapsed.budgetSound := budget_of _ (by decide +kernel)
  refine ⟨?_, h.2.2.2.2.2.1, h.2.2.2.2.2.2.1, h.2.2.2.2.2.2.2.2.1, by decide +kernel⟩
  unfold Plant.absentOnlyFall; decide +kernel

/-! #### A CLAIM that waits, is granted, or is staged -/

/-- A CLAIM with the stage occupied and an entry of its class and one of lower rank in the queue; one above the effective
ceiling; one that brings the committed charge to the effective ceiling exactly, with every optional part. -/
theorem witness_AcceptedClaimWaitsIsGrantedOrStaged :
    (busy.claimPasses 1 (bytes [3, 1, 0, 14, 128]) 7 ∧ busy.plant.freeRecordsClear ∧ busy.plant.eng.stage.isSome = true
      ∧ busy.plant.listsExact ∧ busy.plant.queueOrdered ∧ busy.plant.eng.queue.map busy.plant.classOf = [3, 5])
    ∧ (let s := after .deratenFalls example53
      s.claimPasses 0 (bytes [0, 2, 0, 2, 255, 3, 255]) 0 ∧ s.plant.freeRecordsClear ∧ s.plant.eng.stage = none
      ∧ s.plant.eng.queue = []
      ∧ s.lim.effective < s.plant.requestCostOf (claimTerms (bytes [0, 2, 0, 2, 255, 3, 255])))
    ∧ seq37.claimPasses 0 (bytes [5, 1, 7, 5, 255, 8, 2, 88, 1, 0]) 3 ∧ seq37.plant.freeRecordsClear
    ∧ seq37.plant.eng.stage = none ∧ seq37.plant.eng.queue = []
    ∧ seq37.plant.eng.committed + seq37.plant.requestCostOf (claimTerms (bytes [5, 1, 7, 5, 255, 8, 2, 88, 1, 0]))
      ≤ seq37.lim.effective := by
  refine ⟨?_, ?_, ?_⟩
  · unfold State.claimPasses Plant.freeRecordsClear Plant.listsExact Plant.lists Plant.stageExact Plant.stageCurrent
      Plant.queueOrdered
    decide +kernel
  all_goals (unfold State.claimPasses Plant.freeRecordsClear; decide +kernel)

/-- Two RUNNING allotments of class 3 without a floor, and one of class 2. -/
def floorless : State :=
  holding 2 2 2 [(4, 255, 255, 255)] none .running 200 <|
  holding 1 1 3 [(1, 192, 192, 192)] none .running 300 <|
  holding 0 0 3 [(0, 192, 192, 192)] none .running 300 example53

/-- Slot 1 falls to FREE with 300 of the budget. -/
def releasing : State := after (.release (.client 0) [1, 0]) seq37

/-- A CLAIM on channel 2 at duty 255, of class `c`, cost 399, in a state with 800 committed, passes and is not within
available. -/
def tooMuch (s : State) (c : Nat) : Prop :=
  s.claimPasses 0 (bytes [c, 1, 0, 2, 255]) 3 ∧ s.plant.freeRecordsClear ∧ s.budgetSound ∧ s.plant.eng.stage = none
  ∧ s.plant.eng.queue = [] ∧ s.plant.requestCostOf (claimTerms (bytes [c, 1, 0, 2, 255])) = 399
  ∧ s.plant.eng.committed = 800 ∧ s.lim.effective = 1000

/-- The four ways of a CLAIM that is not within available: the fall in progress gives 300 of the 199 needed; two
reductions of 150; one shedding of 300; no candidate of lower rank. -/
theorem witness_AcceptedClaimWaitsIsGrantedOrStaged_not_within_available :
    (tooMuch releasing 5 ∧ (releasing.plant.allot 0).state = .falling .free ∧ (releasing.plant.allot 0).charge = 300)
    ∧ (tooMuch seq37 0 ∧ takenInOrder seq37.plant.lostBefore (fun x => x ∈ seq37.plant.eng.grants
        ∧ (seq37.plant.allot x.slot).state = .running ∧ (seq37.plant.allot x.slot).floor.isSome = true
        ∧ seq37.plant.outranks 0 (seq37.plant.classOf x))
      (fun x => (seq37.plant.allot x.slot).requestCost - (seq37.plant.allot x.slot).floorCost) 199 [⟨1, 0⟩, ⟨0, 0⟩])
    ∧ (tooMuch floorless 0 ∧ (∀ i, (floorless.plant.allot i).floor = none)
      ∧ takenInOrder floorless.plant.lostBefore (fun x => x ∈ floorless.plant.eng.grants
        ∧ ((floorless.plant.allot x.slot).state = .rising ∨ (floorless.plant.allot x.slot).state = .running
          ∨ (floorless.plant.allot x.slot).state = .reduced)
        ∧ floorless.plant.outranks 0 (floorless.plant.classOf x))
      (fun x => (floorless.plant.allot x.slot).charge) 199 [⟨1, 0⟩])
    ∧ tooMuch seq37 5 ∧ ∀ x ∈ seq37.plant.eng.grants, ¬seq37.plant.outranks 5 (seq37.plant.classOf x) := by
  have m : ∀ s c, @decide _ (budgetDec s) = true →
      (s.claimPasses 0 (bytes [c, 1, 0, 2, 255]) 3 ∧ s.plant.freeRecordsClear ∧ s.plant.eng.stage = none
        ∧ s.plant.eng.queue = [] ∧ s.plant.requestCostOf (claimTerms (bytes [c, 1, 0, 2, 255])) = 399
        ∧ s.plant.eng.committed = 800 ∧ s.lim.effective = 1000) → tooMuch s c :=
    fun s c h k => ⟨k.1, k.2.1, budget_of s h, k.2.2⟩
  unfold takenInOrder
  refine ⟨⟨m _ _ (by decide +kernel) ?_, by decide +kernel⟩, ⟨m _ _ (by decide +kernel) ?_, ?_, ?_, ?_, ?_⟩,
    ⟨m _ _ (by decide +kernel) ?_, by decide +kernel, ?_, ?_, ?_, ?_⟩, m _ _ (by decide +kernel) ?_, ?_⟩
  case refine_5 =>
    exact fun h hh g hg hn => (by
      unfold Plant.lostBefore Plant.outranks Plant.admittedAfter; decide +kernel :
      ∀ h ∈ [(⟨1, 0⟩ : Handle), ⟨0, 0⟩], ∀ g ∈ seq37.plant.eng.grants,
        (seq37.plant.allot g.slot).floor.isSome = true → g ∉ [(⟨1, 0⟩ : Handle), ⟨0, 0⟩] →
        seq37.plant.lostBefore h g) h hh g hg.1 hg.2.2.1 hn
  case refine_10 =>
    exact fun h hh g hg hn => (by
      unfold Plant.lostBefore Plant.outranks Plant.admittedAfter; decide +kernel :
      ∀ h ∈ [(⟨1, 0⟩ : Handle)], ∀ g ∈ floorless.plant.eng.grants, g ∉ [(⟨1, 0⟩ : Handle)] →
        floorless.plant.lostBefore h g) h hh g hg.1 hn
  all_goals
    try unfold State.claimPasses Plant.freeRecordsClear
    try unfold Plant.lostBefore Plant.admittedAfter
    try unfold Plant.outranks
    decide +kernel

/-- A client in another state than ACTIVE. -/
def clientAs (st : ClientState) (s : State) : State :=
  s.setPlant (s.plant.setClient 0 { s.plant.client 0 with state := st, timer := none })

/-- Channel 6 disabled, channel 7 FAULTED; channel 4 is bound by slot 3. -/
def unfit : State :=
  seq37.setPlant ((seq37.plant.setChan 6 Channel.reset).setChan 7 (seq37.plant.chan 7).latched)

/-- Every slot taken (a state no run reaches, the sixteen channels being fewer than the slots). -/
def tableFull : State :=
  seq37.setPlant { seq37.plant with eng := { seq37.plant.eng with
    allots := Vector.replicate 32 { Allotment.reset with state := .waiting, owner := some 1 } } }

/-- The layout of 10.2 with every part at a boundary: class 5, channels 0 and 15, duties 1 and 255, floor 15, run limit
FFFFh, tag 0102h; and one byte short, and a floor of 16. -/
theorem test_claim_layout :
    let p := bytes [5, 2, 7, 0, 1, 15, 255, 15, 255, 255, 1, 2]
    claimLengthOk p = true ∧ claimFieldsOk p = true ∧ claimClass p = 5
    ∧ claimTerms p = [⟨0, 1, 0⟩, ⟨15, 255, 0⟩] ∧ claimFloor p = some 15 ∧ claimRun p = some 65535
    ∧ claimTag p = some 0x0102 ∧ claimLengthOk (p.take 11) = false ∧ claimFieldsOk (p.set 7 16) = false := by
  decide +kernel

/-- Each test of R17 failing first. -/
theorem witness_ClaimRefusedByTheFirstFailingTest :
    seq37.inReset = false ∧ seq37.ctl.part = .run
    ∧ ((clientAs .idle seq37).plant.client 0).state = .idle ∧ ((clientAs .lapsed seq37).plant.client 0).state = .lapsed
    ∧ (seq37.plant.client 0).state = .active ∧ claimLengthOk (bytes [0, 1, 0, 5]) = false
    ∧ claimLengthOk (bytes [6, 1, 0, 5, 1]) = true ∧ claimFieldsOk (bytes [6, 1, 0, 5, 1]) = false
    ∧ (claimFieldsOk (bytes [0, 2, 0, 5, 1, 6, 1]) = true
      ∧ claimTerms (bytes [0, 2, 0, 5, 1, 6, 1]) = [⟨5, 1, 0⟩] ++ ⟨6, 1, 0⟩ :: [] ∧ (unfit.plant.chan 5).enabled = true
      ∧ (unfit.plant.chan 5).state ≠ .faulted ∧ unfit.plant.eng.binding[5] = none
      ∧ (unfit.plant.chan 6).enabled = false ∧ (unfit.plant.chan 7).enabled = true
      ∧ (unfit.plant.chan 7).state = .faulted ∧ (unfit.plant.chan 4).state ≠ .faulted
      ∧ unfit.plant.eng.binding[4] ≠ none)
    ∧ (seq37.plant.claimChannelTest (claimTerms (bytes [0, 4, 0, 2, 255, 3, 255, 5, 255, 6, 255])) = none
      ∧ seq37.lim.configured
        < seq37.plant.requestCostOf (claimTerms (bytes [0, 4, 0, 2, 255, 3, 255, 5, 255, 6, 255])))
    ∧ (seq37.plant.requestCostOf (claimTerms (bytes [0, 2, 0, 2, 255, 3, 255])) ≤ seq37.lim.configured
      ∧ (seq37.plant.client 0).quota
        < (seq37.plant.client 0).claimed + seq37.plant.requestCostOf (claimTerms (bytes [0, 2, 0, 2, 255, 3, 255])))
    ∧ (tableFull.plant.client 0).claimed + tableFull.plant.requestCostOf (claimTerms (bytes [0, 1, 0, 5, 1]))
        ≤ (tableFull.plant.client 0).quota
    ∧ tableFull.plant.claimChannelTest (claimTerms (bytes [0, 1, 0, 5, 1])) = none
    ∧ ∀ i, (tableFull.plant.allot i).state ≠ .free := by decide +kernel

/-- Slot numbers 0, 33, 1 and 32; another's slot; a FREE slot; an old generation; a RESHAPE with a handle and a duty. -/
theorem witness_HandlesAreTestedInOrder :
    seq37.inReset = false ∧ (seq37.plant.client 0).state = .active ∧ seq37.ctl.part = .run
    ∧ requestOf (.query (.client 0) [33, 0]) = some (.query, .client 0, [33, 0])
    ∧ requestOf (.release .supervisor [0, 0]) = some (.release, .supervisor, [0, 0])
    ∧ requestOf (.retry (.client 0) [2, 0]) = some (.retry, .client 0, [2, 0])
    ∧ requestOf (.reshape (.client 0) [1, 1, 9]) = some (.reshape, .client 0, [1, 1, 9])
    ∧ (seq37.plant.allot 1).owner ≠ some 0 ∧ (seq37.plant.allot 0).owner = some 0
    ∧ ¬seq37.plant.current ⟨0, 1⟩ ∧ ¬seq37.plant.current ⟨31, 0⟩ := by
  unfold Plant.current; decide +kernel

/-- A REDUCED allotment in the queue, a RUNNING one, and clients in IDLE and LAPSED. -/
theorem witness_QueryAnswersAndOnlyTheOwnerClearsTheFlag :
    busy.inReset = false ∧ (busy.plant.allot 0).state = .reduced ∧ (busy.plant.client 0).state = .active
    ∧ (busy.plant.allot 0).owner = some 0
    ∧ seq37.inReset = false ∧ (seq37.plant.allot 2).state ≠ .free ∧ (seq37.plant.client 2).state = .active
    ∧ (seq37.plant.allot 2).owner = some 2 ∧ ((clientAs .idle seq37).plant.client 0).state = .idle
    ∧ ((clientAs .lapsed seq37).plant.client 0).state = .lapsed := by decide +kernel

/-- A duty of 255 for the waiting slot 5. -/
theorem witness_ReshapeOfWaitingStoresTheDutiesInPlace :
    busy.reshapePasses 2 4 [255] ∧ (busy.plant.allot 4).state = .waiting := by
  unfold State.reshapePasses State.ownerAsks; decide +kernel

/-- A rise by 24 that brings the committed charge near the ceiling, and a fall. -/
theorem witness_ReshapeOfRunningStartsATransition :
    seq37.reshapePasses 0 0 [255] ∧ seq37.reshapePasses 0 0 [1] ∧ (seq37.plant.allot 0).state = .running
    ∧ (∀ t ∈ (seq37.plant.allot 0).terms, (seq37.plant.chan t.channel).applied = t.requested)
    ∧ (seq37.plant.allot 0).terms.map (·.requested) ≠ ([255] : List Byte).map BitVec.toNat
    ∧ (seq37.plant.allot 0).terms.map (·.requested) ≠ ([1] : List Byte).map BitVec.toNat
    ∧ seq37.plant.eng.committed + seq37.plant.reserve + (399 - 300) ≤ seq37.lim.effective := by
  unfold State.reshapePasses State.ownerAsks; decide +kernel

/-- Section 4.4.1's refusal: 957 committed. -/
def crowded : State :=
  let s := holding 1 0 3 [(0, 128, 128, 128), (4, 200, 200, 200)] (some 8) .running 357 example53
  s.setPlant { s.plant with eng := { s.plant.eng with committed := 957 } }

/-- A RESHAPE of slot `i` by its owner passes orders 1 to 5 of R80. -/
def reshapeHeard (s : State) (c : ClientIx) (i : SlotIx) (ds : List Byte) : Prop :=
  s.ownerAsks c i ∧ s.ctl.part = .run ∧ 1 ≤ ds.length ∧ ds.length ≤ 4

/-- One duty too many; a duty of 0; an allotment that is REDUCED; a quota and a ceiling of one below what is needed. -/
theorem witness_ReshapeRefusedOrToTheSameDutiesChangesNothing_refusals :
    (((clientAs .idle busy).plant.client 0).state = .idle ∧ ((clientAs .lapsed busy).plant.client 0).state = .lapsed
      ∧ (bytes [1, 0]).length < 3 ∧ 6 < (bytes [1, 0, 1, 1, 1, 1, 1]).length)
    ∧ (reshapeHeard busy 0 0 [1, 1] ∧ (busy.plant.allot 0).terms.length = 1 ∧ (busy.plant.allot 0).state = .reduced)
    ∧ (reshapeHeard seq37 0 0 [0] ∧ (0 : Byte) ∈ ([0] : List Byte))
    ∧ (reshapeHeard seq37 0 0 [255] ∧ (seq37.plant.allot 0).state = .running
      ∧ (List.zipWith (fun (t : Term) (d : Byte) => { t with requested := d.toNat }) (seq37.plant.allot 0).terms
        [255]) = [⟨0, 255, 192⟩] ∧ seq37.plant.requestCostOf [⟨0, 255, 192⟩] = 399
      ∧ (seq37.plant.client 0).claimed + 399 - (seq37.plant.allot 0).requestCost = 399
      ∧ 398 < 399 ∧ (seq37.plant.client 0).quota = 900 ∧ seq37.lim.configured = 1000) := by
  unfold reshapeHeard State.ownerAsks; decide +kernel

theorem witness_ReshapeRefusedOrToTheSameDutiesChangesNothing :
    (crowded.reshapePasses 0 1 [128, 200] ∧ (crowded.plant.allot 1).state = .running
      ∧ (crowded.plant.allot 1).terms.map (·.requested) = ([128, 200] : List Byte).map BitVec.toNat)
    ∧ crowded.reshapePasses 0 1 [160, 100]
    ∧ (List.zipWith (fun (t : Term) (d : Byte) => decide (t.requested < d.toNat)) (crowded.plant.allot 1).terms
        [160, 100]).any id = true
    ∧ crowded.lim.effective < crowded.plant.eng.committed + crowded.plant.reserve
        + ((List.zipWith (fun (t : Term) (d : Byte) => costAt (crowded.plant.chan t.channel).rating (max t.requested d.toNat))
            (crowded.plant.allot 1).terms [160, 100]).sum - (crowded.plant.allot 1).charge) := by
  unfold State.reshapePasses State.ownerAsks; decide +kernel

/-- A WAITING, a TRIPPED and two STAGED allotments, with a queue and with none behind them; the refusals. -/
theorem witness_ReleaseWithoutOutputFreesTheSlotAtOnce :
    (busy.ownerAsks 2 4 ∧ (busy.plant.allot 4).charge = 0 ∧ (busy.plant.allot 4).state = .waiting)
    ∧ (busy.ownerAsks 0 6 ∧ (busy.plant.allot 6).charge = 0 ∧ (busy.plant.allot 6).state = .tripped)
    ∧ (∀ s ∈ [busy, staged37], s.ownerAsks 0 3 ∧ (s.plant.allot 3).charge = 0 ∧ (s.plant.allot 3).state = .staged
      ∧ s.plant.eng.stage = some (s.plant.handleOf 3))
    ∧ busy.plant.eng.queue ≠ [] ∧ staged37.plant.eng.queue = []
    ∧ ((clientAs .idle busy).plant.client 0).state = .idle ∧ ((clientAs .lapsed busy).plant.client 0).state = .lapsed
    ∧ (busy.plant.client 0).state = .active ∧ (bytes [1]).length ≠ 2 ∧ (bytes [1, 0, 0]).length ≠ 2 := by
  unfold State.ownerAsks; decide +kernel

/-- The busy state with an empty stage. -/
def unstaged : State := busy.setPlant (busy.plant.setStage none)

/-- A REDUCED, a RISING and a FALLING/REDUCED allotment, the last also with the stage empty, where its release lowers the
committed charge; and one in FALLING/FREE. -/
theorem witness_ReleaseWithOutputStartsAFallToFree :
    (busy.ownerAsks 0 0 ∧ (busy.plant.allot 0).state = .reduced ∧ busy.plant.eng.stage.isSome = true)
    ∧ (busy.ownerAsks 1 5 ∧ (busy.plant.allot 5).state = .rising)
    ∧ (busy.ownerAsks 1 1 ∧ (busy.plant.allot 1).state = .falling .reduced)
    ∧ (unstaged.ownerAsks 1 1 ∧ (unstaged.plant.allot 1).state = .falling .reduced ∧ unstaged.plant.eng.stage = none
      ∧ unstaged.plant.transitionCharge (unstaged.plant.allot 1).terms (fun _ => 0) < (unstaged.plant.allot 1).charge
      ∧ (unstaged.plant.allot 1).charge ≤ unstaged.plant.eng.committed)
    ∧ (after (.release (.client 0) [1, 0]) seq37).ownerAsks 0 0
    ∧ ((after (.release (.client 0) [1, 0]) seq37).plant.allot 0).state = .falling .free := by
  unfold State.ownerAsks; decide +kernel

/-- Channel 13 of the tripped slot 7 is latched, with its input inactive and with its input active. -/
def latched : State := busy.setPlant (busy.plant.setChan 13 (busy.plant.chan 13).latched)

theorem witness_RetryClearsLatchesAndRequeues :
    latched.ownerAsks 0 6 ∧ latched.ctl.part = .run ∧ (latched.plant.allot 6).state = .tripped
    ∧ latched.plant.eng.stage.isSome = true ∧ (latched.plant.chan 13).state = .faulted
    ∧ (let s := latched.setPlant (latched.plant.setStage none);
      s.ownerAsks 0 6 ∧ (s.plant.allot 6).state = .tripped ∧ s.plant.eng.stage = none)
    ∧ (latched.ownerAsks 0 0 ∧ (latched.plant.allot 0).state ≠ .tripped)
    ∧ ((clientAs .idle latched).plant.client 0).state = .idle
    ∧ ((clientAs .lapsed latched).plant.client 0).state = .lapsed ∧ latched.inReset = false
    ∧ latched.pins.faultLow[13] = false ∧ latched.plant.queueOrdered ∧ (latched.setFaultLow 13 true).ownerAsks 0 6
    ∧ (latched.setFaultLow 13 true).pins.faultLow[13] = true
    ∧ (latched.plant.allot 6).terms = [] ++ ⟨13, 9, 0⟩ :: [] := by
  unfold State.ownerAsks Plant.queueOrdered; decide +kernel

theorem witness_ScanListsAndOnlyTheClientClearsFlags :
    busy.inReset = false ∧ (busy.plant.client 0).state = .active ∧ busy.plant.ownedBy 0 = [0, 3, 6]
    ∧ ((clientAs .idle busy).plant.client 0).state = .idle
    ∧ ((clientAs .lapsed busy).plant.client 0).state = .lapsed := by decide +kernel

/-- Levels that change with the stage occupied and with it empty, levels that stay, and the three refusals. -/
theorem witness_SetClassesRegroupsTheQueue :
    busy.inReset = false ∧ (busy.plant.client 0).state ≠ .unset ∧ busy.plant.eng.stage.isSome = true
    ∧ unstaged.plant.eng.stage = none ∧ unstaged.plant.eng.queue = [⟨0, 0⟩, ⟨4, 0⟩]
    ∧ (after (.setClasses .supervisor (bytes [0, 0, 0, 0, 0, 3])) busy).plant.eng.queue = [⟨4, 0⟩, ⟨0, 0⟩]
    ∧ (bytes [0, 0, 0, 0, 0, 3]).length = 6 ∧ (∀ b ∈ bytes [0, 0, 0, 0, 0, 3], b.toNat ≤ 3)
    ∧ (∃ b ∈ bytes [0, 0, 0, 0, 0, 4], 3 < b.toNat) ∧ (bytes [0, 0, 0, 0, 0]).length ≠ 6
    ∧ (after (.setClasses .supervisor (bytes [3, 0, 0, 0, 0, 0])) busy).plant.eng.levels = busy.plant.eng.levels := by
  decide +kernel

theorem witness_JoinActivatesTheClient :
    ((clientAs .idle example53).plant.client 0).state = .idle
    ∧ ((clientAs .lapsed example53).plant.client 0).state = .lapsed ∧ (example53.plant.client 0).state = .active
    ∧ example53.inReset = false ∧ example53.plant.ownedBy 0 = [] := by decide +kernel

/-- Client 0 of `busy` is ACTIVE with a timer and owns, beside others, an allotment of each way a client release ends. -/
theorem witness_ClientReleasesOfAnOwner :
    busy.inReset = false ∧ (busy.plant.client 0).state = .active ∧ (busy.plant.client 0).timer.isSome = true
    ∧ busy.plant.accountsAgree ∧ (busy.plant.ownedBy 0).map (fun i => (busy.plant.allot i).state)
      = [.reduced, .staged, .tripped] := by
  unfold Plant.accountsAgree Plant.freeRecordsClear; decide +kernel

theorem witness_LeaveAndLapseEndThePresenceOfAClient :
    example53.inReset = false ∧ (example53.plant.client 0).state = .active ∧ example53.plant.ownedBy 0 = []
    ∧ (example53.plant.client 0).timer.isSome = true
    ∧ ((clientAs .idle example53).plant.client 0).state = .idle
    ∧ ((clientAs .lapsed example53).plant.client 0).state = .lapsed := by decide +kernel

/-- The owner of a REDUCED, a STAGED and a TRIPPED allotment leaves, joins or lapses: slot 1 falls to FREE. -/
theorem witness_ClientReleaseLeavesOnlyFallsToFree :
    busy.inReset = false ∧ (busy.plant.client 0).state = .active ∧ (busy.plant.client 0).timer.isSome = true
    ∧ (∃ t, exec (.leave (.client 0) []) busy = .next t ∧ (t.plant.allot 0).state ≠ .free
      ∧ (t.plant.allot 0).owner = some 0)
    ∧ (∃ t, exec (.join (.client 0) []) busy = .next t ∧ (t.plant.allot 0).state ≠ .free
      ∧ (t.plant.allot 0).owner = some 0)
    ∧ ∃ t, exec (.windowExpiry 0) busy = .next t ∧ (t.plant.allot 0).state ≠ .free
      ∧ (t.plant.allot 0).owner = some 0 := by
  refine ⟨by decide +kernel, by decide +kernel, by decide +kernel, ⟨_, rfl, ?_⟩, ⟨_, rfl, ?_⟩, _, rfl, ?_⟩
  all_goals decide +kernel

theorem witness_PingReportsAndClearsOnlyTheRetiredCount :
    busy.inReset = false ∧ (busy.plant.client 0).state = .active
    ∧ ((clientAs .idle busy).plant.client 0).state = .idle
    ∧ ((clientAs .lapsed busy).plant.client 0).state = .lapsed := by decide +kernel

/-- Every form, with the quota at the claimed total for the change; and every refusal of R132. -/
theorem witness_SetClientActsByItsForm :
    (setup.inReset = false ∧ setup.ctl.part = .setup
      ∧ ((setup.plant.client 0).state = .unset ∧ (setup.plant.client 0).claimed ≤ 4095
        ∧ ∀ d, d ≠ 0 → (setup.plant.client d).state ≠ .unset → (setup.plant.client d).id ≠ some 0x7F)
      ∧ ((seq37.plant.client 0).state ≠ .unset ∧ (seq37.plant.client 0).id = some 0x21
        ∧ (seq37.plant.client 0).claimed ≤ 256 * 1 + 44)
      ∧ (let s := inSetup (clientAs .lapsed example53);
        (s.plant.client 0).state = .lapsed ∧ (s.plant.client 0).id ≠ some 0x7F ∧ s.ctl.part = .setup
        ∧ (s.plant.client 0).claimed ≤ 0
        ∧ ∀ d, d ≠ 0 → (s.plant.client d).state ≠ .unset → (s.plant.client d).id ≠ some 0x7F))
    ∧ ([0, 0, 0, 0, 0] : List Byte).length ≠ 6 ∧ 8 < (9 : Byte).toNat ∧ 0x7F < (0x80 : Byte).toNat
    ∧ 4095 < 256 * (16 : Byte).toNat + (0 : Byte).toNat ∧ 1 < (2 : Byte).toNat
    ∧ (seq37.inReset = false ∧ seq37.ctl.part = .run ∧ (seq37.plant.client 5).state = .unset)
    ∧ ((setup.plant.client 1).state = .active ∧ (setup.plant.client 1).id ≠ some 0x7F)
    ∧ (let s := inSetup (clientAs .lapsed example53);
      (s.plant.client 0).id ≠ some 0x22 ∧ (s.plant.client 1).state ≠ .unset ∧ (s.plant.client 1).id = some 0x22)
    ∧ (let s := setup.setPlant (setup.plant.setClient 0 { Client.reset with claimed := 5 });
      (s.plant.client 0).state = .unset ∧ 4 < (s.plant.client 0).claimed)
    ∧ 256 * 1 + 43 < (seq37.plant.client 0).claimed := by decide +kernel

/-- Channel 5 disabled and channel 3 enabled, an active and an inactive input, ratings 1, 1023 and 0. -/
theorem witness_SetChannelWritesTheRecordAndTheLatch :
    setup.inReset = false ∧ setup.ctl.part = .setup ∧ (setup.plant.chan 5).enabled = false
    ∧ (setup.plant.chan 3).enabled = true ∧ setup.pins.faultLow[5] = false
    ∧ (setup.setFaultLow 5 true).pins.faultLow[5] = true
    ∧ 1 ≤ 256 * (0 : Byte).toNat + (1 : Byte).toNat ∧ 256 * (3 : Byte).toNat + (255 : Byte).toNat ≤ 1023
    ∧ 256 * (0 : Byte).toNat + (0 : Byte).toNat = 0 ∧ ¬(16 : Byte).toNat ≤ 15 ∧ (15 : Byte).toNat ≤ 15 := by
  decide +kernel

theorem witness_SetTimingTakesEffectAtTheNextFrameStart :
    setup.inReset = false ∧ setup.ctl.part = .setup ∧ (setup.plant.client 1).state ≠ .unset ∧ seq37.inReset = false
    ∧ seq37.ctl.part = .run ∧ 2 < (3 : Byte).toNat ∧ 3 < (4 : Byte).toNat ∧ ([0] : List Byte).length ≠ 2 := by
  decide +kernel

theorem witness_ClearFaultClearsAnInactiveLatchOnly :
    setup.inReset = false ∧ (setup.plant.chan 5).enabled = false ∧ 15 < (16 : Byte).toNat
    ∧ latched.inReset = false ∧ (latched.plant.chan 13).enabled = true ∧ (latched.plant.chan 13).state = .faulted
    ∧ latched.pins.faultLow[13] = false ∧ (latched.setFaultLow 13 true).pins.faultLow[13] = true
    ∧ (latched.plant.chan 4).enabled = true ∧ (latched.plant.chan 4).state ≠ .faulted := by decide +kernel

theorem witness_FrameStartStepsSettlesAndReports :
    busy.inReset = false ∧ (∀ n, (busy.plant.chan n).shaped) ∧ busy.plant.out.nextTiming = none := by
  unfold Channel.shaped; decide +kernel

/-- Ramp counters 1, 2 and 128, frame counts 254 and 255. -/
theorem witness_CountsRunUpToTheFrameStart :
    let at_ := fun (r k : Nat) => example53.onOutput fun o => { o with rampCounter := r, frameCount := k }
    (at_ 1 0).inReset = false ∧ (at_ 1 0).plant.out.rampCounter ≤ 1 ∧ (at_ 2 0).plant.out.nextTiming = none
    ∧ 2 ≤ (at_ 2 0).plant.out.rampCounter ∧ (at_ 128 0).plant.out.rampCounter ≤ 128
    ∧ (at_ 1 254).plant.out.frameCount < 255 ∧ (at_ 1 255).plant.out.frameCount = 255 := by decide +kernel

theorem witness_PulseIsOneUnbrokenOnTime :
    (busy.plant.chan 4).shaped ∧ (busy.plant.chan 4).state = .on ∧ (busy.plant.chan 2).shaped
    ∧ (busy.plant.chan 2).state = .off ∧ (busy.plant.chan 4).phase = some 4 ∧ (busy.plant.chan 4).applied ≤ 255 := by
  unfold Channel.shaped
  refine ⟨?_, ?_, ?_, ?_, ?_⟩ <;> decide +kernel

theorem witness_FaultInputLatchesAnEnabledChannel :
    busy.inReset = false ∧ busy.pins.faultLow[15] = false ∧ (busy.plant.chan 15).enabled = true
    ∧ (busy.plant.chan 15).state ≠ .faulted ∧ busy.plant.eng.binding[15] = none
    ∧ (unfit.plant.chan 6).enabled = false ∧ (unfit.plant.chan 7).state = .faulted := by decide +kernel

/-- The input of a channel of slot `i` can trip it. -/
def canTrip (s : State) (n : ChannelIx) (i : SlotIx) : Prop :=
  s.inReset = false ∧ s.pins.faultLow[n] = false ∧ (s.plant.chan n).enabled = true ∧ (s.plant.chan n).state ≠ .faulted
  ∧ s.plant.eng.binding[n] = some (s.plant.handleOf i) ∧ n ∈ (s.plant.allot i).terms.map Term.channel

/-- RUNNING while the stage waits, and with the stage empty; the last fall, which the stage waits for; WAITING; STAGED;
falling to FREE, with its channels at a duty; TRIPPED with its latch cleared. -/
theorem witness_FaultTripsTheAllotmentAtOnce :
    (canTrip busy 4 2 ∧ (busy.plant.allot 2).state.granted = true ∧ (busy.plant.allot 2).state ≠ .falling .free
      ∧ busy.plant.stageWaits 2)
    ∧ (canTrip seq37 1 1 ∧ (seq37.plant.allot 1).state.granted = true ∧ seq37.plant.eng.stage = none
      ∧ 0 < (seq37.plant.allot 1).charge)
    ∧ (canTrip busy 1 1 ∧ (busy.plant.allot 1).state = .falling .reduced ∧ busy.plant.eng.stage.isSome = true)
    ∧ (canTrip busy 8 4 ∧ (busy.plant.allot 4).state = .waiting)
    ∧ (canTrip busy 2 3 ∧ (busy.plant.allot 3).state = .staged)
    ∧ (canTrip releasing 0 0 ∧ (releasing.plant.allot 0).state = .falling .free
      ∧ (releasing.plant.allot 0).owner = some 0)
    ∧ canTrip busy 13 6 ∧ (busy.plant.allot 6).state = .tripped := by
  refine ⟨?_, ?_, ?_, ?_, ?_, ?_, ?_⟩ <;> (unfold canTrip; try unfold Plant.stageWaits) <;> decide +kernel

/-- Ceilings of 4095 and 0: a rise with the stage occupied and with it empty, one unmoved, a fall to the committed charge, a
fall below. -/
theorem witness_SetLimitsStoresAndRecomputesTheCeiling :
    busy.inReset = false ∧ (busy.plant.client 0).state ≠ .unset
    ∧ 256 * (15 : Byte).toNat + (255 : Byte).toNat ≤ 4095 ∧ 4095 < 256 * (16 : Byte).toNat + (0 : Byte).toNat
    ∧ busy.lim.effective < 4095 ∧ busy.plant.eng.stage.isSome = true
    ∧ unstaged.inReset = false ∧ unstaged.lim.effective < 4095 ∧ unstaged.plant.eng.stage = none
    ∧ busy.lim.derate = .normal ∧ busy.plant.eng.committed = 675 ∧ 675 ≤ busy.lim.effective
    ∧ 0 < busy.lim.effective ∧ 0 < busy.plant.eng.committed := by decide +kernel

/-- A fall with 0 committed, from NORMAL and from HOLDING; rises with a hold above 0 and of 0, and the expiry, with the
stage empty and with it occupied. -/
theorem witness_DerateStateFollowsThePin :
    let low := after .deratenFalls example53
    let low0 : State := { low with lim := { low.lim with hold := 0 } }
    example53.ceilingSound ∧ low.ceilingSound ∧ low0.ceilingSound ∧ (after .deratenRises low).ceilingSound
    ∧ example53.inReset = false ∧ example53.pins.derateLow = false ∧ example53.lim.derate = .normal
    ∧ example53.plant.eng.committed ≤ 600 ∧ ¬example53.lim.effective < 600
    ∧ (after .deratenRises low).pins.derateLow = false ∧ (after .deratenRises low).lim.derate = .holding
    ∧ low.pins.derateLow = true ∧ low.lim.derate = .derated ∧ 0 < low.lim.hold ∧ low0.lim.hold = 0
    ∧ low0.lim.effective < ({ low0.lim with derate := .normal } : LimitUnit).effectiveFor low0.ctl.part
    ∧ low0.plant.eng.stage = none ∧ (after .deratenRises low).plant.eng.stage = none
    ∧ staged37.plant.eng.stage.isSome = true := by
  unfold State.ceilingSound; decide +kernel

/-- 675 committed against a derated ceiling of 600. -/
theorem witness_HardCutStopsWithinTheCeiling :
    busy.inReset = false ∧ busy.pins.derateLow = false ∧ busy.lim.derate = .normal ∧ busy.ceilingSound
    ∧ busy.plant.accountsAgree ∧ busy.plant.listsExact ∧ busy.plant.chargeLaw ∧ busy.plant.queueOrdered
    ∧ ({ busy.lim with derate := .derated } : LimitUnit).effectiveFor busy.ctl.part < busy.plant.eng.committed
    ∧ ({ busy.lim with derate := .derated } : LimitUnit).effectiveFor busy.ctl.part < busy.lim.effective :=
  ⟨by decide +kernel, by decide +kernel, by decide +kernel, witness_LimitUnitStaysSound.1.1,
    witness_CommittedStaysTheSumOfCharges, witness_QueueGrantsAndStageStayExact.1,
    witness_SettledChargesStayAsTheirStatesSay, witness_QueueGrantsAndStageStayExact.2, by decide +kernel,
    by decide +kernel⟩

/-- The hold's expiry with an entry in the queue; an entry REDUCED at slot 0 with 150 to top up, and WAITING at slot 4
with a cost of 3, under ceilings at and one below what each clause needs. -/
theorem witness_AdmissionPassWalksTheQueue :
    (held.inReset = false ∧ held.lim.derate = .holding ∧ held.plant.eng.stage = none
      ∧ held.lim.effective < ({ held.lim with derate := .normal } : LimitUnit).effectiveFor held.ctl.part
      ∧ held.plant.eng.queue ≠ [])
    ∧ ((busy.plant.allot 0).state = .reduced
      ∧ busy.plant.eng.committed + ((busy.plant.allot 0).requestCost - (busy.plant.allot 0).floorCost) = 825)
    ∧ (busy.plant.allot 4).state = .waiting ∧ (busy.plant.allot 4).requestCost = 3 ∧ busy.plant.eng.committed = 675
    ∧ (busy.plant.plan 677 .other 4).isSome = true ∧ (let s := after (.claim (.client 0) (bytes [5, 1, 0, 2, 255])) seq37
      (s.plant.allot 3).state = .waiting ∧ (s.plant.allot 3).requestCost ≤ 1000
      ∧ 1000 < s.plant.eng.committed + (s.plant.allot 3).requestCost ∧ s.plant.plan 1000 .other 3 = none) := by
  decide +kernel

/-- Slot 6 rises on channel 12 with its last report in flight; then with channel 13 left; then with another identity; then
with the stage empty and a charge above its request cost. -/
theorem witness_SettledReportOfARiseEndsInRunning :
    let s := reporting 12 5 busy
    let s2 := s.setPlant (s.plant.setAllot 5 { s.plant.allot 5 with unsettled := [12, 13] })
    let s3 := s.setPlant (s.plant.setAllot 5 { s.plant.allot 5 with commandId := 7 })
    s.inReset = false ∧ (s.plant.out.reports.find? fun x => x.channel == 12) = some ⟨12, some 1, 64⟩
    ∧ s.plant.eng.binding[12] = some (s.plant.handleOf 5) ∧ (s.plant.allot 5).state = .rising
    ∧ (s.plant.allot 5).commandId = 1 ∧ (s.plant.allot 5).unsettled = [12] ∧ s.plant.eng.stage.isSome = true
    ∧ 12 ∈ (s2.plant.allot 5).unsettled ∧ (s2.plant.allot 5).unsettled.erase 12 ≠ []
    ∧ some 1 ≠ some (s3.plant.allot 5).commandId ∧ s.plant.eng.binding[15] = none
    ∧ (let s4 := (reporting 12 5 unstaged).setPlant ((reporting 12 5 unstaged).plant.setCharge 5 30)
      s4.plant.eng.stage = none ∧ (s4.plant.allot 5).requestCost < (s4.plant.allot 5).charge
      ∧ (s4.plant.allot 5).charge ≤ s4.plant.eng.committed ∧ (s4.plant.allot 5).state = .rising) := by decide +kernel

/-- Slot 2 falls with each outcome and its last report in flight, while the stage waits for slot 8. -/
def lastReport (o : FallOutcome) : State :=
  let s := holding 7 2 2 [(9, 5, 3, 0)] none (.falling .free) 2 busy
  s.setPlant (s.plant.setState 1 (.falling o))

theorem witness_SettledReportOfAFallEndsInItsOutcome :
    ∀ o ∈ [FallOutcome.free, .waiting, .reduced, .running],
      (lastReport o).inReset = false
      ∧ ((lastReport o).plant.out.reports.find? fun x => x.channel == 1) = some ⟨1, some 1, 96⟩
      ∧ (lastReport o).plant.eng.binding[1] = some ((lastReport o).plant.handleOf 1)
      ∧ some 1 = some ((lastReport o).plant.allot 1).commandId ∧ ((lastReport o).plant.allot 1).unsettled = [1]
      ∧ (lastReport o).plant.stageWaits 1 ∧ ((lastReport o).plant.allot 1).state = .falling o := by
  unfold Plant.stageWaits; decide +kernel

/-- The same report ends the last fall, the stage occupied by slot 4 and then empty: the staged allotment rises under a
ceiling of 1000, and goes back to the queue under one of 300. -/
theorem witness_SettledReportOfAFallEndsInItsOutcome_last :
    ∀ o ∈ [FallOutcome.free, .waiting, .reduced, .running],
      let s := busy.setPlant (busy.plant.setState 1 (.falling o))
      let s6 : State := { s with lim := { s.lim with effective := 300 } }
      s.inReset = false ∧ (s.plant.out.reports.find? fun x => x.channel == 1) = some ⟨1, some 1, 96⟩
      ∧ s.plant.eng.binding[1] = some (s.plant.handleOf 1) ∧ (s.plant.allot 1).commandId = 1
      ∧ (s.plant.allot 1).unsettled = [1] ∧ s.plant.eng.stage = some ⟨3, 0⟩
      ∧ (∀ j, j ≠ 1 → (s.plant.allot j).state.outcome? = none)
      ∧ (o ≠ .running → ((after (.settledReport 1) s).plant.allot 3).state = .rising)
      ∧ ((after (.settledReport 1) s6).plant.allot 3).state = .waiting
      ∧ (s.setPlant (s.plant.setStage none)).plant.eng.stage = none := by decide +kernel

/-- Slot 3 runs with 2 and 1 tenths left, the stage occupied; slot 6 rises, with 1 left and the stage empty, where the fall
lowers the committed charge; a paused timer. -/
theorem witness_RunLimitCountsDownAndEndsTheGrant :
    let timed := fun (i : SlotIx) (n : Nat) => busy.setPlant (busy.plant.setAllot i { busy.plant.allot i with run := some ⟨9, n, 0⟩ })
    (timed 2 2).inReset = false ∧ ((timed 2 2).plant.allot 2).run = some ⟨9, 2, 0⟩
    ∧ ((timed 2 2).plant.allot 2).state = .running ∧ ((timed 2 1).plant.allot 2).run = some ⟨9, 1, 0⟩
    ∧ (timed 2 1).plant.eng.stage.isSome = true ∧ ((timed 2 1).plant.allot 2).owner = some 2
    ∧ ((timed 4 2).plant.allot 4).run = some ⟨9, 2, 0⟩ ∧ ((timed 4 2).plant.allot 4).state = .waiting
    ∧ (let s := (timed 5 1).setPlant ((timed 5 1).plant.setStage none)
      (s.plant.allot 5).run = some ⟨9, 1, 0⟩ ∧ (s.plant.allot 5).state = .rising ∧ s.plant.eng.stage = none
      ∧ (s.plant.allot 5).owner = some 1
      ∧ s.plant.transitionCharge (s.plant.allot 5).terms (fun _ => 0) < (s.plant.allot 5).charge
      ∧ (s.plant.allot 5).charge ≤ s.plant.eng.committed) := by
  decide +kernel

theorem witness_CommitOpensRunAndRestartOnlyPends :
    setup.inReset = false ∧ setup.ctl.part = .setup ∧ setup.outputsSound :=
  ⟨by decide +kernel, by decide +kernel, witness_SetupStaysQuiet.2.1⟩

theorem witness_HaltFreesEverythingAndReturnsToSetup :
    busy.inReset = false ∧ busy.ctl.part = .run ∧ busy.plant.claimedLaw ∧ (busy.plant.client 0).state ≠ .unset
    ∧ setup.inReset = false ∧ setup.ctl.part = .setup :=
  ⟨by decide +kernel, by decide +kernel, witness_ClaimedTotalsStaySums.2, by decide +kernel, by decide +kernel,
    by decide +kernel⟩

/-- IDLE; RX with 23 and with 24 bytes. -/
theorem witness_WritePhaseStoresTwentyFourBytes :
    let s := fun n : Nat => withPort example53 fun t => { t with state := .rx, buffer := List.replicate n 0 }
    example53.inReset = false ∧ example53.port.state = .idle ∧ (s 23).port.state = .rx ∧ (s 23).port.held = none
    ∧ (s 23).port.buffer.length < 24 ∧ (s 23).port.overLength = false ∧ 24 ≤ (s 24).port.buffer.length := by
  decide +kernel

/-- The frame test of R154, byte by byte. -/
def passes (f : List Byte) (mark : Bool) : Prop :=
  5 ≤ f.length ∧ f.length = 5 + (f.getD 3 0).toNat ∧ mark = false ∧ f.getD (f.length - 1) 0 = crc8 (f.take (f.length - 1))

/-- A frame in RX; a damaged one; one of an unknown id; a repeat, a reused number, an unknown code, a request of an ACTIVE
client with a window and one of the supervisor. -/
theorem witness_FrameIsCheckedDispatchedAndAnswered :
    let got := fun f : List Byte => withPort example53 fun t => { t with
      state := .rx, buffer := f
      clientSlots := t.clientSlots.set 0 (some ⟨0x11, claimFrame, [1]⟩) }
    (got []).inReset = false ∧ (got []).port.state = .rx ∧ (got []).port.held = none
    ∧ ¬passes (bytes [0x21, 0x11, 1, 0, 0]) false ∧ ¬passes claimFrame true ∧ ¬passes (claimFrame.take 4) false
    ∧ (passes (withCheck [0x31, 1, 6, 0]) false
      ∧ ∀ c, ((got []).plant.client c).state ≠ .unset → ((got []).plant.client c).id ≠ some 0x31)
    ∧ (passes claimFrame false ∧ claimFrame.getD 0 0 = 0x21 ∧ ((got []).plant.client 0).state = .active
      ∧ ((got []).plant.client 0).id = some 0x21 ∧ ((got []).plant.client 0).window = 20
      ∧ (got []).port.clientSlots[0] = some ⟨0x11, claimFrame, [1]⟩ ∧ claimFrame.getD 1 0 = 0x11)
    ∧ (passes (withCheck [0x21, 0x11, 6, 0]) false ∧ claimFrame ≠ withCheck [0x21, 0x11, 6, 0])
    ∧ (passes (withCheck [0x21, 0x12, 7, 0]) false ∧ (withCheck [0x21, 0x12, 7, 0]).getD 2 0 = 7)
    ∧ passes (withCheck [0x21, 0x12, 6, 0]) false ∧ passes (withCheck [0, 0x12, 0x32, 0]) false
    ∧ (got []).port.supervisorSlot = none := by unfold passes; decide +kernel

/-- A request with its owning block: in EXEC; after a STOP in IDLE; under a held write address byte. -/
theorem witness_FrameIsCheckedDispatchedAndAnswered_reply :
    (handedOver.inReset = false ∧ handedOver.port.handed.isSome = true ∧ handedOver.port.state = .exec)
    ∧ (let s := after (.writePhaseEnd .stop) received
      s.inReset = false ∧ s.port.handed.isSome = true ∧ s.port.state = .idle ∧ s.port.held = none
      ∧ s.port.restartReply = false)
    ∧ (let s := after (.writePhaseEnd .restartWrite) received
      s.port.handed.isSome = true ∧ s.port.state = .rx ∧ s.port.held = some .write ∧ s.port.restartReply = false) := by
  decide +kernel

/-- TX and SUMMARY, at the last byte, past it, and after a NACK; a bare read from IDLE, with no frame handled and with
one, and the reply of that frame in hand. -/
theorem witness_ReadPhasesSendTheirFrameThenFiller :
    let s := fun (st : PortState) (k : Nat) (x : Bool) => withPort example53 fun t => { t with
      state := st, inHand := some [1, 2], position := k, stopped := x }
    let stopped := after (.writePhaseEnd .stop) received
    let waiting := after .bareRead stopped
    let built := after (.claim (.client 0) (bytes [2, 1, 0, 0, 0x80])) waiting
    ((s .tx 1 false).inReset = false ∧ (s .tx 1 false).port.state = .tx ∧ (s .summary 2 false).port.state = .summary
      ∧ (s .tx 1 false).port.held = none ∧ (s .tx 1 false).port.inHand = some [1, 2]
      ∧ (s .tx 1 false).port.restartReply = false ∧ (s .tx 1 false).port.stopped = false
      ∧ (s .tx 2 true).port.stopped = true ∧ (s .tx 1 false).port.handling = false)
    ∧ (busy.inReset = false ∧ busy.port.restartReply = false ∧ busy.port.state = .idle ∧ busy.port.held = none
      ∧ busy.port.handling = false)
    ∧ (stopped.port.state = .idle ∧ stopped.port.held = none ∧ stopped.port.handling = true)
    ∧ built.port.restartReply = false ∧ built.port.state = .summary ∧ built.port.held = some .read
    ∧ built.port.built.isSome = true := by decide +kernel

/-- R141: a retired count of an ACTIVE client with alert enable on drives ALERTn low; with either missing it does not. -/
theorem test_alertn_is_driven_low :
    let s := fun (st : ClientState) (al : Bool) (k : Nat) => (example53.setPlant (example53.plant.setClient 0
      { example53.plant.client 0 with state := st, alert := al, retired := k })).alertLow
    s .active true 1 = true ∧ s .lapsed true 1 = false ∧ s .active false 1 = false ∧ s .active true 0 = false := by
  decide +kernel

theorem witness_BusErrorAndTimerAbandonTheExchange :
    received.inReset = false ∧ received.port.restartReply = false ∧ received.port.held = none
    ∧ received.port.state = .rx ∧ handedOver.port.timer.isSome = true ∧ handedOver.port.restartReply = false
    ∧ (after .bareRead busy).port.state = .summary := by decide +kernel

theorem witness_FrameCheckByteIsTheCrcOfTheFrame :
    frameCheckOk (bytes [0x21, 0x11, 6, 0] ++ [crc8 (bytes [0x21, 0x11, 6, 0])]) false = true
    ∧ (0x11 : Byte) ≠ 0x12 := by decide +kernel

end Sys2Proof.Tests
end

section
/-! The reset values of R175, read out of the blocks, and the invariants at reset. -/

namespace Sys2Proof.Machine

@[simp] theorem Plant.allot_reset (i : SlotIx) : Plant.reset.allot i = Allotment.reset := by
  simp [Plant.allot, Plant.reset, Engine.reset]

@[simp] theorem Plant.chan_reset (n : ChannelIx) : Plant.reset.chan n = Channel.reset := by
  simp [Plant.chan, Plant.reset, OutputStage.reset]

@[simp] theorem Plant.client_reset (c : ClientIx) : Plant.reset.client c = Client.reset := by
  simp [Plant.client, Plant.reset]

@[simp] theorem Plant.stage_reset : Plant.reset.eng.stage = none := rfl

theorem Plant.binding_reset (n : ChannelIx) : Plant.reset.eng.binding[n] = none := by
  simp [Plant.reset, Engine.reset]

/-- After a reset every allotment is FREE, so no client owns one. -/
theorem Plant.ownedBy_reset (c : ClientIx) : Plant.reset.ownedBy c = [] := by
  simp [Plant.ownedBy, Allotment.reset]

theorem Plant.freeRecordsClear_reset : Plant.reset.freeRecordsClear := by
  simp [Plant.freeRecordsClear, Allotment.asFree, Allotment.reset]

theorem Plant.accountsAgree_reset : Plant.reset.accountsAgree :=
  ⟨Plant.freeRecordsClear_reset, by simp [Plant.chargeSum, Allotment.reset]; rfl⟩

theorem Plant.bindingExact_reset : Plant.reset.bindingExact :=
  ⟨by simp [Allotment.reset], fun n h hb => by rw [Plant.binding_reset] at hb; cases hb⟩

/-- The empty list holds the allotments of a set of states when no allotment is in one of them. -/
theorem Plant.lists_nil {p : Plant} {f : AllotState → Bool} (h : ∀ i, f (p.allot i).state = false) :
    p.lists [] f := by
  simp [Plant.lists, h]

theorem Plant.listsExact_reset : Plant.reset.listsExact :=
  ⟨Plant.lists_nil (by simp [Allotment.reset, AllotState.queued]),
   Plant.lists_nil (by simp [Allotment.reset, AllotState.granted, AllotState.outcome?]),
   by simp [Plant.stageExact, Allotment.reset], by simp [Plant.stageCurrent]⟩

theorem Plant.queueOrdered_reset : Plant.reset.queueOrdered := by
  simp [Plant.queueOrdered, Plant.reset, Engine.reset]

theorem Plant.chargeLaw_reset : Plant.reset.chargeLaw :=
  ⟨by simp, fun i => by simp [Allotment.chargeFits, Allotment.reset]⟩

theorem Plant.claimedLaw_reset : Plant.reset.claimedLaw :=
  ⟨Plant.freeRecordsClear_reset, fun c => by simp [Plant.claimedBy, Plant.ownedBy_reset, Client.reset]⟩

theorem Channel.shaped_reset : Channel.reset.shaped := by simp [Channel.shaped, Channel.reset]

theorem Plant.quiet_reset : Plant.reset.quiet :=
  ⟨by simp [Allotment.reset], rfl, rfl, rfl, rfl, fun n => .inl (by simp [Channel.reset])⟩

/-- A part whose plant stands at its reset values and whose effective ceiling is 0 has sound outputs (R166, R175). -/
theorem State.outputsSound_of_reset {s : State} (hp : s.plant = Plant.reset) (he : s.lim.effective = 0) :
    s.outputsSound :=
  ⟨fun n => by simpa [hp] using Channel.shaped_reset, fun _ => ⟨hp ▸ Plant.quiet_reset, he⟩⟩

end Sys2Proof.Machine

open Sys2Proof.Machine in
/-- Settles O14: each invariant from the reset values of the blocks it speaks of. -/
theorem invariantsHoldAtReset : Obligations.InvariantsHoldAtReset :=
  ⟨Plant.accountsAgree_reset, Plant.bindingExact_reset, Plant.listsExact_reset, Plant.queueOrdered_reset,
   Plant.chargeLaw_reset, Plant.claimedLaw_reset, State.outputsSound_of_reset rfl rfl,
   by simp [State.ceilingSound, State.reset, LimitUnit.reset, LimitUnit.effectiveFor, Pins.atReset],
   by simp [State.derateSound, State.reset, LimitUnit.reset, Pins.atReset],
   fun c => by simp [State.reset, Client.shaped, Client.reset],
   by simp [State.reset, Port.shaped, Port.reset],
   by simp [State.reset, OutputStage.countersInRange, Plant.reset, OutputStage.reset, Sys2Proof.Config.frameCounts,
        Sys2Proof.Config.resetRampCounter, Timing.frames]⟩

open Sys2Proof.Machine in
/-- Settles O16, block by block from the values a read after a reset gives. -/
theorem resetValuesAreThoseOfTheChapters : Obligations.ResetValuesAreThoseOfTheChapters := by
  refine ⟨⟨rfl, rfl, fun s cause => ⟨rfl, rfl, rfl, rfl⟩⟩, ?allots, Plant.binding_reset, rfl, rfl, rfl, rfl, ?levels,
    ?channels, ?loads, rfl, rfl, rfl, ?clients, ?alert, fun low => ⟨rfl, rfl, rfl, rfl, rfl, rfl⟩, ?port⟩
  case allots => intro i; rw [Plant.allot_reset]; exact ⟨rfl, rfl, rfl, rfl, rfl, rfl, rfl, rfl, rfl, rfl, rfl⟩
  case levels => simp [Plant.reset, Engine.reset]
  case channels => intro n; rw [Plant.chan_reset]; exact ⟨rfl, rfl, rfl, rfl, rfl, rfl, rfl, rfl, rfl⟩
  case loads => simp [OutputStage.load, Plant.reset, OutputStage.reset, Channel.reset]
  case clients => intro c; rw [Plant.client_reset]; exact ⟨rfl, rfl, rfl, rfl, rfl, rfl, rfl, rfl⟩
  case alert => simp [Plant.alertLow, Client.reset]
  case port =>
    refine fun k => ⟨rfl, rfl, rfl, rfl, rfl, rfl, rfl, fun c => ?_, rfl⟩
    simp [Port.reset]
end

section
/-! How a request of a known sender is answered, and the tests that QUERY, RELEASE, RETRY and RESHAPE share. -/

namespace Sys2Proof.Machine

/-! ### The answer to a request -/

/-- What the owning block does with each request (10.2). -/
def blockOf (r : Request) : BlockStep :=
  match r with
  | .claim => claim | .query => query | .reshape => reshape | .release => release | .retry => retry | .scan => scan
  | .join => join | .leave => leave | .ping => ping | .setClient => setClient | .setChannel => setChannel
  | .setTiming => setTiming | .clearFault => clearFault | .setLimits => setLimits | .setClasses => setClasses
  | .commit => commit | .halt => halt | .restart => restart

/-- The row of a request is the taking of that request by its owning block (R158). -/
theorem exec_request {cmd : Instr} {r : Request} {snd : Sender} {p : List Byte}
    (h : requestOf cmd = some (r, snd, p)) (s : State) : exec cmd s = s.request r snd p (blockOf r) := by
  cases cmd <;> cases h <;> rfl

/-- The sender is the supervisor or a client that is ACTIVE. -/
def State.present (s : State) (snd : Sender) : Prop := ∀ c, snd = .client c → (s.plant.client c).state = .active

theorem State.present_supervisor (s : State) : s.present .supervisor := fun _ h => by cases h

theorem State.present_client {s : State} {c : ClientIx} (h : (s.plant.client c).state = .active) :
    s.present (.client c) := fun _ hd => by cases hd; exact h

/-- A request of the supervisor or of a configured client, outside reset, is answered with what the block returned. -/
theorem State.request_known {s : State} (h : s.inReset = false) {snd : Sender}
    (hk : ∀ c, snd = .client c → (s.plant.client c).state ≠ .unset) (r : Request) (p : List Byte) (f : BlockStep) :
    s.request r snd p f = .next ((f snd p s).1.answered r snd p (f snd p s).2) := by
  cases snd with
  | supervisor => exact State.request_supervisor h r p f
  | client c => exact State.request_client h r p c (hk c rfl) f

theorem State.request_present {s : State} (h : s.inReset = false) {snd : Sender} (hp : s.present snd) (r : Request)
    (p : List Byte) (f : BlockStep) :
    s.request r snd p f = .next ((f snd p s).1.answered r snd p (f snd p s).2) :=
  State.request_known h (fun c hc => Client.active_ne_unset (hp c hc)) r p f

/-- The supervisor and an ACTIVE client pass the test of the client's state (R22, R86, R135). -/
theorem State.notActive_present {s : State} {snd : Sender} (h : s.present snd) : s.notActive snd = none := by
  cases snd with
  | supervisor => rfl
  | client c => simp [State.notActive, h c rfl]

theorem State.notActive_idle {s : State} {c : ClientIx} (h : (s.plant.client c).state = .idle) :
    s.notActive (.client c) = some .notJoined := by simp [State.notActive, h]

theorem State.notActive_lapsed {s : State} {c : ClientIx} (h : (s.plant.client c).state = .lapsed) :
    s.notActive (.client c) = some .lapsed := by simp [State.notActive, h]

/-- Requests whose first test is that of the client's state, and whose second is a length of two bytes (R22, R86). -/
structure TestedAsQuery (f : BlockStep) : Prop where
  inactive : ∀ snd p s st, s.notActive snd = some st → f snd p s = s.refuse st
  length : ∀ snd p s, s.notActive snd = none → p.length ≠ 2 → f snd p s = s.refuse .badLength

theorem query_tested : TestedAsQuery query :=
  ⟨fun snd p s st h => by simp [query, h], fun snd p s h hl => by simp [query, h, hl]⟩

theorem release_tested : TestedAsQuery release :=
  ⟨fun snd p s st h => by simp [release, h], fun snd p s h hl => by simp [release, h, hl]⟩

/-- The refusals such a request shares: an IDLE client, a LAPSED client, another length (R22, R86). -/
theorem TestedAsQuery.refusals {f : BlockStep} (hf : TestedAsQuery f) {s : State} (h : s.inReset = false) (r : Request)
    (snd : Sender) (p : List Byte) :
    (∀ c, snd = .client c → (s.plant.client c).state = .idle →
      s.request r snd p f = .next (s.answered r snd p (.bare .notJoined)))
    ∧ (∀ c, snd = .client c → (s.plant.client c).state = .lapsed →
      s.request r snd p f = .next (s.answered r snd p (.bare .lapsed)))
    ∧ (s.present snd → p.length ≠ 2 → s.request r snd p f = .next (s.answered r snd p (.bare .badLength))) := by
  refine ⟨?_, ?_, ?_⟩
  · rintro c rfl hc
    rw [State.request_client h r p c (by simp [hc]), hf.inactive _ _ _ _ (State.notActive_idle hc)]; rfl
  · rintro c rfl hc
    rw [State.request_client h r p c (by simp [hc]), hf.inactive _ _ _ _ (State.notActive_lapsed hc)]; rfl
  · intro hp hl
    rw [State.request_present h hp, hf.length _ _ _ (State.notActive_present hp) hl]; rfl

/-! ### The handle tests of R6 -/

theorem slotOfNumber_outside {n : Nat} (h : n = 0 ∨ 32 < n) : slotOfNumber n = none := by
  unfold slotOfNumber; rw [dif_neg (by omega)]

theorem byteAt_cons_zero (b : Byte) (rest : List Byte) : byteAt (b :: rest) 0 = b.toNat := rfl

/-- A slot number outside 1 to 32 is a bad field (R6). -/
theorem State.handleTest_outside (s : State) (snd : Sender) {b : Byte} (rest : List Byte)
    (h : b.toNat = 0 ∨ 32 < b.toNat) : s.handleTest snd (b :: rest) = .error .badField := by
  simp [State.handleTest, byteAt_cons_zero, slotOfNumber_outside h]

/-- A client that does not own the slot (R6). -/
theorem State.handleTest_notOwner {s : State} {c : ClientIx} {b : Byte} {i : SlotIx} (rest : List Byte)
    (hb : b.toNat = i.val + 1) (ho : (s.plant.allot i).owner ≠ some c) :
    s.handleTest (.client c) (b :: rest) = .error .notOwner := by
  simp [State.handleTest, byteAt_cons_zero, hb, slotOfNumber_succ, clientOf, ho]

/-- A handle of an owned slot that is not current (R6). -/
theorem State.handleTest_stale {s : State} {snd : Sender} {b g : Byte} {i : SlotIx} (rest : List Byte)
    (hb : b.toNat = i.val + 1) (ho : ∀ c, snd = .client c → (s.plant.allot i).owner = some c)
    (hc : ¬s.plant.current ⟨i, g⟩) : s.handleTest snd (b :: g :: rest) = .error .staleHandle := by
  have hown : ¬((clientOf snd).isSome = true ∧ (s.plant.allot i).owner ≠ clientOf snd) := by
    cases snd with
    | supervisor => simp [clientOf]
    | client c => simp [clientOf, ho c rfl]
  have hcur : ¬((s.plant.allot i).state ≠ .free ∧ (s.plant.allot i).generation = g) := hc
  simp only [State.handleTest, byteAt_cons_zero, hb, slotOfNumber_succ, if_neg hown]
  exact if_neg hcur

/-- A request on a handle that has passed its own earlier checks (R6): the length of QUERY, RELEASE and RETRY is two
bytes, that of RESHAPE three to six; RETRY and RESHAPE are taken in RUN, RESHAPE from clients only. -/
def State.reachesHandle (s : State) (snd : Sender) (r : Request) (p : List Byte) : Prop :=
  ((r = .query ∨ r = .release) ∧ p.length = 2) ∨ (r = .retry ∧ s.ctl.part = .run ∧ p.length = 2)
    ∨ (r = .reshape ∧ s.ctl.part = .run ∧ snd ≠ .supervisor ∧ 3 ≤ p.length ∧ p.length ≤ 6)

/-- A failing handle test refuses the request, and nothing changes (R6). -/
theorem exec_handleTest_error {s : State} {snd : Sender} {cmd : Instr} {r : Request} {p : List Byte} {st : Status}
    (h : s.inReset = false) (hp : s.present snd) (hreq : requestOf cmd = some (r, snd, p))
    (hr : s.reachesHandle snd r p) (ht : s.handleTest snd p = .error st) :
    exec cmd s = .next (s.answered r snd p (.bare st)) := by
  have ha := State.notActive_present hp
  have hx : (blockOf r) snd p s = s.refuse st := by
    rcases hr with ⟨rfl | rfl, hl⟩ | ⟨rfl, hrun, hl⟩ | ⟨rfl, hrun, hs, hl3, hl6⟩
    · simp [blockOf, query, ha, hl, ht]
    · simp [blockOf, release, ha, hl, ht]
    · simp [blockOf, retry, hrun, ha, hl, ht]
    · have hlen : ¬(p.length < 3 ∨ 6 < p.length) := by omega
      cases snd with
      | supervisor => exact absurd rfl hs
      | client c => simp [blockOf, reshape, hrun, ha, hlen, ht]
  rw [exec_request hreq, State.request_present h hp, hx]; rfl

end Sys2Proof.Machine

open Sys2Proof Sys2Proof.Machine in
/-- Settles O23: each of the three failing handle tests refuses the request. -/
theorem handlesAreTestedInOrder : Obligations.HandlesAreTestedInOrder := by
  intro s snd cmd r p b g h hp hreq hform
  have hr : s.reachesHandle snd r p := by
    rcases hform with ⟨hr, rfl⟩ | ⟨hr, hrun, rfl⟩ | ⟨hr, hrun, hs, ds, rfl, h1, h4⟩
    · exact .inl ⟨hr, rfl⟩
    · exact .inr (.inl ⟨hr, hrun, rfl⟩)
    · exact .inr (.inr ⟨hr, hrun, hs, by simp; omega, by simp; omega⟩)
  obtain ⟨rest, rfl⟩ : ∃ rest, p = b :: g :: rest := by
    rcases hform with ⟨-, rfl⟩ | ⟨-, -, rfl⟩ | ⟨-, -, -, ds, rfl, -⟩ <;> exact ⟨_, rfl⟩
  have refused {st : Status} (ht : s.handleTest snd (b :: g :: rest) = .error st) :=
    exec_handleTest_error h hp hreq hr ht
  refine ⟨fun hb => refused (s.handleTest_outside snd _ hb), fun i hb => ⟨?_, fun ho hc => ?_⟩⟩
  · rintro c rfl ho
    exact refused (State.handleTest_notOwner _ hb ho)
  · exact refused (State.handleTest_stale _ hb ho hc)
end

section
/-! What an admission pass does, said once: it is a chain of five acts, each on one slot in a state that allows it. -/

namespace Sys2Proof.Machine

/-! ### Writing a record -/

theorem Plant.setAllot_same (p : Plant) (i : SlotIx) : p.setAllot i (p.allot i) = p := by
  simp [Plant.setAllot, Plant.allot]

/-- Marking writes the changed flag, which stands afterwards unless the event is the owner's own (R14). -/
theorem Plant.markChanged_eq (p : Plant) (o : Origin) (i : SlotIx) :
    p.markChanged o i =
      p.setAllot i { p.allot i with changed := (p.allot i).changed || !o.spares i (p.allot i) } := by
  unfold Plant.markChanged
  split
  · rename_i h; simp only [h, Bool.not_true, Bool.or_false]; exact (p.setAllot_same i).symm
  · rename_i h; simp [h]

theorem Plant.allot_markChanged (p : Plant) (o : Origin) (i j : SlotIx) :
    (p.markChanged o i).allot j = if j = i then
      { p.allot i with changed := (p.allot i).changed || !o.spares i (p.allot i) } else p.allot j := by
  rw [Plant.markChanged_eq, Plant.allot_setAllot]

theorem Plant.allot_setState (p : Plant) (i j : SlotIx) (st : AllotState) :
    (p.setState i st).allot j = if j = i then { p.allot i with state := st } else p.allot j :=
  p.allot_setAllot i j _

/-- Marking keeps everything but one record. -/
theorem Plant.markChanged_frame (p : Plant) (o : Origin) (i : SlotIx) :
    let q := p.markChanged o i
    q.eng.queue = p.eng.queue ∧ q.eng.grants = p.eng.grants ∧ q.eng.stage = p.eng.stage
    ∧ q.eng.binding = p.eng.binding ∧ q.eng.levels = p.eng.levels ∧ q.eng.committed = p.eng.committed
    ∧ q.clients = p.clients ∧ q.out = p.out := by
  rw [Plant.markChanged_eq]; exact ⟨rfl, rfl, rfl, rfl, rfl, rfl, rfl, rfl⟩

@[simp] theorem Plant.markChanged_queue (p : Plant) (o : Origin) (i : SlotIx) :
    (p.markChanged o i).eng.queue = p.eng.queue := (p.markChanged_frame o i).1
@[simp] theorem Plant.markChanged_grants (p : Plant) (o : Origin) (i : SlotIx) :
    (p.markChanged o i).eng.grants = p.eng.grants := (p.markChanged_frame o i).2.1
@[simp] theorem Plant.markChanged_stage (p : Plant) (o : Origin) (i : SlotIx) :
    (p.markChanged o i).eng.stage = p.eng.stage := (p.markChanged_frame o i).2.2.1
@[simp] theorem Plant.markChanged_binding (p : Plant) (o : Origin) (i : SlotIx) :
    (p.markChanged o i).eng.binding = p.eng.binding := (p.markChanged_frame o i).2.2.2.1
@[simp] theorem Plant.markChanged_levels (p : Plant) (o : Origin) (i : SlotIx) :
    (p.markChanged o i).eng.levels = p.eng.levels := (p.markChanged_frame o i).2.2.2.2.1
@[simp] theorem Plant.markChanged_committed (p : Plant) (o : Origin) (i : SlotIx) :
    (p.markChanged o i).eng.committed = p.eng.committed := (p.markChanged_frame o i).2.2.2.2.2.1
@[simp] theorem Plant.markChanged_clients (p : Plant) (o : Origin) (i : SlotIx) :
    (p.markChanged o i).clients = p.clients := (p.markChanged_frame o i).2.2.2.2.2.2.1
@[simp] theorem Plant.markChanged_out (p : Plant) (o : Origin) (i : SlotIx) :
    (p.markChanged o i).out = p.out := (p.markChanged_frame o i).2.2.2.2.2.2.2

@[simp] theorem Plant.startTransition_queue (p : Plant) (i : SlotIx) (d : Term → Nat) (oc : Option FallOutcome) :
    (p.startTransition i d oc).eng.queue = p.eng.queue := rfl
@[simp] theorem Plant.startTransition_grants (p : Plant) (i : SlotIx) (d : Term → Nat) (oc : Option FallOutcome) :
    (p.startTransition i d oc).eng.grants = p.eng.grants := rfl
@[simp] theorem Plant.startTransition_stage (p : Plant) (i : SlotIx) (d : Term → Nat) (oc : Option FallOutcome) :
    (p.startTransition i d oc).eng.stage = p.eng.stage := rfl
@[simp] theorem Plant.startTransition_binding (p : Plant) (i : SlotIx) (d : Term → Nat) (oc : Option FallOutcome) :
    (p.startTransition i d oc).eng.binding = p.eng.binding := rfl
@[simp] theorem Plant.startTransition_levels (p : Plant) (i : SlotIx) (d : Term → Nat) (oc : Option FallOutcome) :
    (p.startTransition i d oc).eng.levels = p.eng.levels := rfl
@[simp] theorem Plant.startTransition_clients (p : Plant) (i : SlotIx) (d : Term → Nat) (oc : Option FallOutcome) :
    (p.startTransition i d oc).clients = p.clients := rfl
@[simp] theorem Plant.startTransition_out (p : Plant) (i : SlotIx) (d : Term → Nat) (oc : Option FallOutcome) :
    (p.startTransition i d oc).out = p.out.command (p.allot i).terms d ((p.allot i).commandId + 1) := rfl
@[simp] theorem Plant.startTransition_committed (p : Plant) (i : SlotIx) (d : Term → Nat)
    (oc : Option FallOutcome) : (p.startTransition i d oc).eng.committed
      = p.eng.committed - (p.allot i).charge + p.transitionCharge (p.allot i).terms d :=
  (p.startTransition_frame i d oc).1

/-! ### Grouping by class (R41, R43, R51) -/

/-- Taking a list apart by the values of a function and putting the parts behind each other permutes it. -/
theorem flatMap_filter_perm {α : Type} [DecidableEq α] {n : Nat} {cs : List (Fin n)} (hcs : cs.Perm (List.finRange n))
    (f : α → Fin n) (l : List α) : (cs.flatMap fun c => l.filter fun a => f a = c).Perm l := by
  rw [List.perm_iff_count]
  intro a
  have hcount : ∀ c, (l.filter fun a => f a = c).count a = if f a = c then l.count a else 0 := by
    intro c
    by_cases h : f a = c
    · rw [if_pos h]; exact List.count_filter (by simpa using h)
    · rw [if_neg h, List.count_eq_zero]; simp [h]
  rw [List.count_flatMap, (hcs.map _).sum_eq, ← Fin.sum_univ_def]
  simp [hcount]

theorem classesByRank_perm (levels : Vector (Fin 4) 6) : (classesByRank levels).Perm (List.finRange 6) :=
  flatMap_filter_perm (by decide) (fun c => levels[c]) (List.finRange 6)

/-- The classes stand from highest rank to lowest (R41). -/
theorem classesByRank_pairwise (levels : Vector (Fin 4) 6) :
    (classesByRank levels).Pairwise fun a b => ranksAbove levels a b = true := by
  unfold classesByRank
  rw [List.pairwise_flatMap]
  constructor
  · intro l _
    refine (List.Pairwise.filter _ (List.pairwise_lt_finRange 6)).imp_of_mem ?_
    intro a b ha hb hab
    have hla : levels[a] = l := by simpa using (List.mem_filter.mp ha).2
    have hlb : levels[b] = l := by simpa using (List.mem_filter.mp hb).2
    simp [ranksAbove, hla, hlb, hab]
  · have hdesc : ([3, 2, 1, 0] : List (Fin 4)).Pairwise (fun k l => l < k) := by decide
    refine hdesc.imp ?_
    intro k l hkl a ha b hb
    have hla : levels[a] = k := by simpa using (List.mem_filter.mp ha).2
    have hlb : levels[b] = l := by simpa using (List.mem_filter.mp hb).2
    simp only [ranksAbove, hla, hlb, hkl, decide_true, Bool.true_or]

/-- Victim order lists the granted allotments, each as often as the grant list does (R51). -/
theorem Plant.victimOrder_perm (p : Plant) : p.victimOrder.Perm p.eng.grants :=
  (flatMap_filter_perm ((List.reverse_perm _).trans (classesByRank_perm p.eng.levels)) p.classOf _).trans
    (List.reverse_perm _)

theorem Plant.mem_victimOrder {p : Plant} {h : Handle} : h ∈ p.victimOrder ↔ h ∈ p.eng.grants :=
  p.victimOrder_perm.mem_iff

/-- The grant list names no slot twice (R49). -/
def Plant.grantsDistinct (p : Plant) : Prop := (p.eng.grants.map Handle.slot).Nodup

theorem Plant.victimOrder_nodup {p : Plant} (h : p.grantsDistinct) : (p.victimOrder.map Handle.slot).Nodup :=
  (p.victimOrder_perm.map _).nodup_iff.mpr h

theorem mem_reductionCandidates {p : Plant} {c : ClassIx} {h : Handle} :
    h ∈ p.reductionCandidates c ↔ h ∈ p.eng.grants ∧ (p.allot h.slot).state = .running
      ∧ (p.allot h.slot).floor.isSome = true ∧ ranksAbove p.eng.levels c (p.classOf h) = true := by
  simp [Plant.reductionCandidates, Plant.mem_victimOrder, and_assoc]

/-- The states of a shedding candidate (R60). -/
def AllotState.sheddable (st : AllotState) : Bool := st == .rising || st == .running || st == .reduced

theorem AllotState.granted_of_sheddable {st : AllotState} (h : st.sheddable = true) : st.granted = true := by
  cases st <;> simp_all [AllotState.sheddable, AllotState.granted]

theorem mem_sheddingCandidates {p : Plant} {c : ClassIx} {h : Handle} :
    h ∈ p.sheddingCandidates c ↔ h ∈ p.eng.grants ∧ (p.allot h.slot).state.sheddable = true
      ∧ ranksAbove p.eng.levels c (p.classOf h) = true := by
  simp [Plant.sheddingCandidates, Plant.mem_victimOrder, AllotState.sheddable]

/-- The victims of a plan are the first of the candidates (R59, R60). -/
theorem takeVictims_prefix {gain : Handle → Nat} {need : Nat} {l vs : List Handle}
    (h : takeVictims gain need l = some vs) : vs <+: l := by
  induction l generalizing need vs with
  | nil => cases h
  | cons x r ih =>
    unfold takeVictims at h
    split at h
    · cases h; exact ⟨r, rfl⟩
    · obtain ⟨ws, hw, rfl⟩ := Option.map_eq_some_iff.mp h
      exact List.prefix_cons_inj x |>.mpr (ih hw)

/-! ### The acts of a pass -/

/-- One act of an admission pass at the effective ceiling `eff`, in an event of origin `o`: what it does to one slot, and
the state it finds there. A victim is RUNNING, or in a state R60 names, unless the grant list names its slot twice. -/
inductive Plant.PassAct (eff : Nat) (o : Origin) (p : Plant) : Plant → Prop
  /-- R54. -/
  | topUp (i : SlotIx) (hs : (p.allot i).state = .reduced)
      (hf : p.fits eff ((p.allot i).requestCost - (p.allot i).floorCost) = true) : PassAct eff o p (p.topUp o i)
  /-- R56. -/
  | grant (i : SlotIx) (hs : (p.allot i).state = .waiting) (hf : p.fits eff (p.allot i).requestCost = true) :
      PassAct eff o p (p.grant o i)
  /-- R59. -/
  | reduce (i : SlotIx) (hn : (p.allot i).state.granted = true) (hfl : (p.allot i).floor.isSome = true)
      (hs : p.grantsDistinct → (p.allot i).state = .running) : PassAct eff o p (p.reduceVictim o i)
  /-- R60. -/
  | shed (i : SlotIx) (hn : (p.allot i).state.granted = true)
      (hs : p.grantsDistinct → (p.allot i).state.sheddable = true) : PassAct eff o p (p.shedVictim o i)
  /-- R62. -/
  | stage (i : SlotIx) (hs : (p.allot i).state = .waiting) (he : p.eng.stage = none) :
      PassAct eff o p (p.stageEntry o i)

/-- A chain of acts of a pass. -/
abbrev Plant.PassChain (eff : Nat) (o : Origin) : Plant → Plant → Prop := Relation.ReflTransGen (Plant.PassAct eff o)

/-- A transition puts an allotment into a state of the grant list (R49, R69). -/
theorem Plant.transitionState_granted (p : Plant) (terms : List Term) (d : Term → Nat) (oc : Option FallOutcome) :
    (p.transitionState terms d oc).granted = true := by
  cases oc with
  | none => rfl
  | some o => simp only [Plant.transitionState]; split <;> rfl

theorem AllotState.ne_free_of_granted {st : AllotState} (h : st.granted = true) : st ≠ .free := by
  rintro rfl; cases h

theorem Plant.transitionState_ne_free (p : Plant) (terms : List Term) (d : Term → Nat) (oc : Option FallOutcome) :
    p.transitionState terms d oc ≠ .free :=
  AllotState.ne_free_of_granted (p.transitionState_granted terms d oc)

/-- What a victim of a plan becomes: a transition starts for its slot, and every other slot stays (R59, R60). -/
theorem Plant.allot_reduceVictim (p : Plant) (o : Origin) (i j : SlotIx) :
    (p.reduceVictim o i).allot j = if j = i then
      { p.inTransition (p.allot i) (p.allot i).floorDutyOf (some .reduced) with
        charge := p.transitionCharge (p.allot i).terms (p.allot i).floorDutyOf
        changed := (p.allot i).changed || !o.spares i (p.allot i) } else p.allot j := by
  unfold Plant.reduceVictim
  rw [Plant.allot_markChanged]
  by_cases h : j = i
  · subst h; simp only [if_true, Plant.allot_startTransition]; cases o <;> rfl
  · simp only [if_neg h, Plant.allot_startTransition]

theorem Plant.allot_shedVictim (p : Plant) (o : Origin) (i j : SlotIx) :
    (p.shedVictim o i).allot j = if j = i then
      { p.inTransition (p.allot i) (fun _ => 0) (some .waiting) with
        charge := p.transitionCharge (p.allot i).terms fun _ => 0
        changed := (p.allot i).changed || !o.spares i (p.allot i) } else p.allot j := by
  unfold Plant.shedVictim
  rw [Plant.allot_markChanged]
  by_cases h : j = i
  · subst h; simp only [if_true, Plant.allot_startTransition]; cases o <;> rfl
  · simp only [if_neg h, Plant.allot_startTransition, Plant.leaveQueue_allot]

/-- Taking victims one after the other: each finds its state as the plan found it, unless the grant list names its slot
twice; the stage, the grant list and every other slot stay. `act` is the reduction or the shedding of one victim. -/
theorem Plant.victims_chain {eff : Nat} {o : Origin} {act : Plant → SlotIx → Plant} {ok : Allotment → Prop}
    (hact : ∀ p i, (p.allot i).state.granted = true → (p.grantsDistinct → ok (p.allot i)) →
      (act p i).eng.grants = p.eng.grants ∧ (act p i).eng.stage = p.eng.stage
      ∧ ((act p i).allot i).state.granted = true ∧ (∀ j, j ≠ i → (act p i).allot j = p.allot j))
    (keep : Allotment → Prop) (hkeep : ∀ p i, keep (p.allot i) → keep ((act p i).allot i))
    (hchain : ∀ p i, (p.allot i).state.granted = true → keep (p.allot i) → (p.grantsDistinct → ok (p.allot i)) →
      Plant.PassAct eff o p (act p i))
    (vs : List Handle) (p : Plant) (hn : ∀ h ∈ vs, (p.allot h.slot).state.granted = true ∧ keep (p.allot h.slot))
    (hok : p.grantsDistinct → (vs.map Handle.slot).Nodup ∧ ∀ h ∈ vs, ok (p.allot h.slot)) :
    let q := vs.foldl (fun q h => act q h.slot) p
    Plant.PassChain eff o p q ∧ q.eng.stage = p.eng.stage
      ∧ ∀ j, j ∉ vs.map Handle.slot → q.allot j = p.allot j := by
  induction vs generalizing p with
  | nil => exact ⟨.refl, rfl, fun _ _ => rfl⟩
  | cons v vs ih =>
    obtain ⟨hnv, hkv⟩ := hn v List.mem_cons_self
    have hokv : p.grantsDistinct → ok (p.allot v.slot) := fun hd => (hok hd).2 v List.mem_cons_self
    obtain ⟨hg, hst, hne, hother⟩ := hact p v.slot hnv hokv
    have hrest := ih (act p v.slot) ?_ ?_
    · obtain ⟨hc, hs, ho⟩ := hrest
      refine ⟨.head (hchain p v.slot hnv hkv hokv) hc, hs.trans hst, fun j hj => ?_⟩
      simp only [List.map_cons, List.mem_cons, not_or] at hj
      exact (ho j hj.2).trans (hother j hj.1)
    · intro h hh
      by_cases he : h.slot = v.slot
      · rw [he]; exact ⟨hne, hkeep p _ hkv⟩
      · rw [hother _ he]; exact hn h (List.mem_cons_of_mem _ hh)
    · intro hd
      have hd' : p.grantsDistinct := by unfold Plant.grantsDistinct at hd ⊢; rwa [hg] at hd
      obtain ⟨hnd, hall⟩ := hok hd'
      rw [List.map_cons, List.nodup_cons] at hnd
      refine ⟨hnd.2, fun h hh => ?_⟩
      have he : h.slot ≠ v.slot := fun he => hnd.1 (he ▸ List.mem_map_of_mem hh)
      rw [hother _ he]; exact hall h (List.mem_cons_of_mem _ hh)

theorem Plant.reduce_chain {eff : Nat} {o : Origin} (vs : List Handle) (p : Plant)
    (hn : ∀ h ∈ vs, (p.allot h.slot).state = .running ∧ (p.allot h.slot).floor.isSome = true)
    (hd : p.grantsDistinct → (vs.map Handle.slot).Nodup) :
    let q := vs.foldl (fun q h => q.reduceVictim o h.slot) p
    Plant.PassChain eff o p q ∧ q.eng.stage = p.eng.stage
      ∧ ∀ j, j ∉ vs.map Handle.slot → q.allot j = p.allot j :=
  Plant.victims_chain (ok := fun a => a.state = .running)
    (fun p i _ _ => ⟨by simp [Plant.reduceVictim], by simp [Plant.reduceVictim],
      by simp [Plant.allot_reduceVictim, Plant.inTransition, Plant.transitionState_granted],
      fun j hj => by simp [Plant.allot_reduceVictim, hj]⟩)
    (fun a => a.floor.isSome = true)
    (fun p i hk => by simpa [Plant.allot_reduceVictim, Plant.inTransition] using hk)
    (fun _ i hn hk hs => .reduce i hn hk hs) vs p
    (fun h hh => ⟨by rw [(hn h hh).1]; rfl, (hn h hh).2⟩) (fun hx => ⟨hd hx, fun h hh => (hn h hh).1⟩)

theorem Plant.shed_chain {eff : Nat} {o : Origin} (vs : List Handle) (p : Plant)
    (hn : ∀ h ∈ vs, (p.allot h.slot).state.sheddable = true)
    (hd : p.grantsDistinct → (vs.map Handle.slot).Nodup) :
    let q := vs.foldl (fun q h => q.shedVictim o h.slot) p
    Plant.PassChain eff o p q ∧ q.eng.stage = p.eng.stage
      ∧ ∀ j, j ∉ vs.map Handle.slot → q.allot j = p.allot j :=
  Plant.victims_chain (ok := fun a => a.state.sheddable = true)
    (fun p i _ _ => ⟨by simp [Plant.shedVictim], by simp [Plant.shedVictim],
      by simp [Plant.allot_shedVictim, Plant.inTransition, Plant.transitionState_granted],
      fun j hj => by simp [Plant.allot_shedVictim, hj]⟩)
    (fun _ => True) (fun _ _ _ => trivial) (fun _ i hn _ hs => .shed i hn hs) vs p
    (fun h hh => ⟨AllotState.granted_of_sheddable (hn h hh), trivial⟩)
    (fun hx => ⟨hd hx, hn⟩)

/-- A plan is a chain of reductions or of sheddings, and then the staging (R58 to R62). -/
theorem Plant.plan_chain {p q : Plant} {eff : Nat} {o : Origin} {i : SlotIx} (hs : (p.allot i).state = .waiting)
    (he : p.eng.stage = none) (h : p.plan eff o i = some q) : Plant.PassChain eff o p q := by
  have staged {r : Plant} {vs : List Handle} (hc : Plant.PassChain eff o p r) (hst : r.eng.stage = p.eng.stage)
      (ho : ∀ j, j ∉ vs.map Handle.slot → r.allot j = p.allot j)
      (hv : ∀ v ∈ vs, (p.allot v.slot).state ≠ .waiting) : Plant.PassChain eff o p (r.stageEntry o i) := by
    have hi : i ∉ vs.map Handle.slot := by
      intro hi
      obtain ⟨v, hv', rfl⟩ := List.mem_map.mp hi
      exact hv v hv' hs
    exact hc.tail (.stage i (by rw [ho i hi, hs]) (hst.trans he))
  unfold Plant.plan at h
  simp only at h
  split at h
  case isTrue => cases h; exact .single (.stage i hs he)
  case isFalse =>
    split at h
    next vs hvs =>
      cases h
      have hpre := takeVictims_prefix hvs
      have hmem : ∀ v ∈ vs, (p.allot v.slot).state = .running ∧ (p.allot v.slot).floor.isSome = true := fun v hv =>
        let hc := mem_reductionCandidates.mp (hpre.subset hv); ⟨hc.2.1, hc.2.2.1⟩
      obtain ⟨hc, hst, ho⟩ := Plant.reduce_chain (eff := eff) (o := o) vs p hmem fun hd =>
        (Plant.victimOrder_nodup hd).sublist ((hpre.sublist.trans List.filter_sublist).map _)
      exact staged hc hst ho fun v hv => by simp [(hmem v hv).1]
    next =>
      split at h
      next vs hvs =>
        cases h
        have hpre := takeVictims_prefix hvs
        have hmem : ∀ v ∈ vs, (p.allot v.slot).state.sheddable = true := fun v hv =>
          (mem_sheddingCandidates.mp (hpre.subset hv)).2.1
        obtain ⟨hc, hst, ho⟩ := Plant.shed_chain (eff := eff) (o := o) vs p hmem fun hd =>
          (Plant.victimOrder_nodup hd).sublist ((hpre.sublist.trans List.filter_sublist).map _)
        exact staged hc hst ho fun v hv hw => by simpa [hw, AllotState.sheddable] using hmem v hv
      next => cases h

/-- The walk of a pass is a chain of its acts, as long as the stage is empty before it (R52 to R57). -/
theorem passWalk_chain {eff : Nat} {o : Origin} (l : List Handle) (p : Plant) (he : p.eng.stage = none) :
    Plant.PassChain eff o p (passWalk eff o l p) := by
  induction l generalizing p with
  | nil => exact .refl
  | cons h rest ih =>
    unfold passWalk
    simp only
    split
    case h_1 hs =>
      split
      next hf => exact .head (.topUp h.slot hs hf) (ih _ (by simpa [Plant.topUp] using he))
      next => exact ih p he
    case h_2 hs =>
      split
      next => exact ih p he
      next =>
        split
        next hf => exact .head (.grant h.slot hs hf) (ih _ (by simpa [Plant.grant] using he))
        next =>
          split
          next q hq => exact Plant.plan_chain hs he hq
          next => exact .refl
    all_goals exact ih p he

theorem Plant.pass_chain {eff : Nat} {o : Origin} {p : Plant} (he : p.eng.stage = none) :
    Plant.PassChain eff o p (p.pass eff o) := passWalk_chain _ _ he

theorem Plant.passIf_chain (p : Plant) (eff : Nat) (o : Origin) (t : Bool) :
    Plant.PassChain eff o p (p.passIf eff o t) := by
  unfold Plant.passIf
  split
  next h => exact Plant.pass_chain (by simp_all)
  next => exact .refl

/-! ### What the acts leave -/

/-- A top-up or a grant starts a transition toward the requested duties in its slot, and every other slot stays. -/
theorem Plant.allot_topUp (p : Plant) (o : Origin) (i j : SlotIx) :
    (p.topUp o i).allot j = if j = i then
      { p.inTransition (p.allot i) (·.requested) none with
        charge := p.transitionCharge (p.allot i).terms (·.requested)
        changed := (p.allot i).changed || !o.spares i (p.allot i) } else p.allot j := by
  unfold Plant.topUp
  rw [Plant.allot_markChanged]
  by_cases h : j = i
  · subst h; simp only [if_true, Plant.allot_startTransition]; cases o <;> rfl
  · simp only [if_neg h, Plant.allot_startTransition, Plant.leaveQueue_allot]

theorem Plant.allot_grant (p : Plant) (o : Origin) (i j : SlotIx) :
    (p.grant o i).allot j = (p.topUp o i).allot j := by
  simp only [Plant.grant, Plant.topUp, Plant.allot_markChanged, Plant.joinGrants_allot]

/-- Staging writes the record of its slot, without charge and without targets, and every other slot stays. -/
theorem Plant.allot_stageEntry (p : Plant) (o : Origin) (i j : SlotIx) :
    (p.stageEntry o i).allot j = if j = i then
      { (p.allot i).halted with state := .staged, charge := 0
                                changed := (p.allot i).changed || !o.spares i (p.allot i) } else p.allot j := by
  unfold Plant.stageEntry
  simp only [Plant.allot_markChanged, Plant.allot_setAllot, Plant.allot_setCharge]
  by_cases h : j = i
  · subst h; simp only [if_true, Plant.setStage_allot, Plant.leaveQueue_allot]; cases o <;> rfl
  · simp only [if_neg h, Plant.setStage_allot, Plant.leaveQueue_allot]

/-- A pass does not touch a FREE slot. -/
theorem Plant.PassAct.allot_free {eff : Nat} {o : Origin} {p q : Plant} (h : Plant.PassAct eff o p q) {j : SlotIx}
    (hj : (p.allot j).state = .free) : q.allot j = p.allot j := by
  cases h with
  | topUp i hs _ => rw [Plant.allot_topUp, if_neg (by rintro rfl; simp [hj] at hs)]
  | grant i hs _ => rw [Plant.allot_grant, Plant.allot_topUp, if_neg (by rintro rfl; simp [hj] at hs)]
  | reduce i hn _ _ => rw [Plant.allot_reduceVictim, if_neg (by rintro rfl; exact AllotState.ne_free_of_granted hn hj)]
  | shed i hn _ => rw [Plant.allot_shedVictim, if_neg (by rintro rfl; exact AllotState.ne_free_of_granted hn hj)]
  | stage i hs _ => rw [Plant.allot_stageEntry, if_neg (by rintro rfl; simp [hj] at hs)]

theorem Plant.PassChain.allot_free {eff : Nat} {o : Origin} {p q : Plant} (h : Plant.PassChain eff o p q) {j : SlotIx}
    (hj : (p.allot j).state = .free) : q.allot j = p.allot j := by
  induction h with
  | refl => rfl
  | tail _ hact ih => rw [hact.allot_free (by rw [ih]; exact hj), ih]

end Sys2Proof.Machine
end

section
/-! QUERY and RELEASE of an allotment that holds no output. -/

namespace Sys2Proof.Machine

/-! ### QUERY (R22 to R24) -/

/-- A QUERY of a present handle, from its owner or the supervisor: the reply, and a client's clearing of the flag. -/
theorem query_ok {s : State} {snd : Sender} {i : SlotIx} (hp : s.present snd) (hf : (s.plant.allot i).state ≠ .free)
    (ho : snd = .supervisor ∨ (s.plant.allot i).owner = clientOf snd) :
    query snd (s.plant.handleOf i).bytes s =
      (s.setPlant (if (clientOf snd).isSome then s.plant.clearChanged i else s.plant),
        .okWith (s.plant.queryReply i)) := by
  have ht := State.handleTest_ok [] hf ho
  rw [List.append_nil] at ht
  have hl : (s.plant.handleOf i).bytes.length = 2 := rfl
  simp [query, State.notActive_present hp, hl, ht]

/-- The outcome byte by the state (10.3). -/
theorem AllotState.outcomeByte_eq (st : AllotState) : st.outcomeByte = (match st with
    | .falling .free => 0 | .falling .waiting => 1 | .falling .running => 4 | .falling .reduced => 5
    | .free | .waiting | .staged | .rising | .running | .reduced | .tripped => 0xFF) := by
  cases st with
  | falling o => cases o <;> rfl
  | _ => rfl

end Sys2Proof.Machine

open Sys2Proof Sys2Proof.Machine in
/-- Settles O24: the shared refusals, and for a current handle the reply of R23 with R24's clearing of the flag. -/
theorem queryAnswersAndOnlyTheOwnerClearsTheFlag : Obligations.QueryAnswersAndOnlyTheOwnerClearsTheFlag := by
  refine ⟨?_, by decide, by decide⟩
  intro s i h hf a position reply
  have hreply : reply = .okWith (s.plant.queryReply i) := by
    change BlockReply.okWith _ = BlockReply.okWith _
    unfold Plant.queryReply
    congr 12
    rw [AllotState.outcomeByte_eq]
    rfl
  refine ⟨fun snd p => query_tested.refusals h .query snd p, fun c hc ho => ?_, ?_⟩
  · have hp := State.present_client hc
    change s.request .query (.client c) (s.plant.handleOf i).bytes query = _
    rw [State.request_present h hp, query_ok hp hf (.inr ho), hreply]; rfl
  · have hp := s.present_supervisor
    change s.request .query .supervisor (s.plant.handleOf i).bytes query = _
    rw [State.request_present h hp, query_ok hp hf (.inl rfl), hreply]; rfl

namespace Sys2Proof.Machine

/-! ### RELEASE of an allotment that holds no output (R87) -/

/-- A RELEASE of a present handle, from its owner or the supervisor (R86). -/
theorem release_ok {s : State} {snd : Sender} {i : SlotIx} (hp : s.present snd) (hf : (s.plant.allot i).state ≠ .free)
    (ho : snd = .supervisor ∨ (s.plant.allot i).owner = clientOf snd) :
    release snd (s.plant.handleOf i).bytes s =
      (s.setPlant (s.plant.releaseAccepted s.lim.effective snd i),
        (s.plant.releaseAccepted s.lim.effective snd i).releaseReply (s.plant.handleOf i)) := by
  have ht := State.handleTest_ok [] hf ho
  rw [List.append_nil] at ht
  have hl : (s.plant.handleOf i).bytes.length = 2 := rfl
  simp [release, State.notActive_present hp, hl, ht]

/-- The plant with slot `i` out of the queue or out of the stage, as a release of its state needs (R48, R87). -/
def Plant.withoutEntry (p : Plant) (i : SlotIx) : Plant :=
  match (p.allot i).state with
  | .waiting => p.leaveQueue i
  | .staged => p.setStage none
  | .free | .rising | .running | .reduced | .falling _ | .tripped => p

/-- A release of an allotment that holds no output frees its slot (R87). -/
theorem Plant.releaseOne_idle {p : Plant} {i : SlotIx} (h : (p.allot i).state.idle = true) (o : Origin)
    (retires : Bool) : p.releaseOne o retires i = (p.withoutEntry i).releaseIdle i retires := by
  cases hs : (p.allot i).state <;> simp [AllotState.idle, hs] at h <;>
    simp [Plant.releaseOne, Plant.withoutEntry, hs]

theorem Plant.withoutEntry_frame (p : Plant) (i : SlotIx) :
    (p.withoutEntry i).eng = { p.eng with
        queue := if (p.allot i).state = .waiting then p.eng.queue.filter fun h => h.slot ≠ i else p.eng.queue
        stage := if (p.allot i).state = .staged then none else p.eng.stage }
    ∧ (p.withoutEntry i).out = p.out ∧ (p.withoutEntry i).clients = p.clients := by
  cases hs : (p.allot i).state <;>
    simp [Plant.withoutEntry, hs, Plant.leaveQueue, Plant.setStage]

/-- What freeing a slot leaves of the client table: the claimed total of the owner falls by the request cost (R136). -/
theorem Plant.clients_freeSlot {p : Plant} {i : SlotIx} {c : ClientIx} (ho : (p.allot i).owner = some c) :
    (p.freeSlot i).clients = p.clients.set c { p.client c with
      claimed := (p.client c).claimed - (p.allot i).requestCost } := by
  simp [Plant.freeSlot, Plant.adjustClaimed, ho, Plant.setClient, Plant.bindTerms, Plant.setCharge, Plant.client]

/-- Freeing a slot writes its record, its bindings and the committed charge, and nothing else of the engine. -/
theorem Plant.freeSlot_eng (p : Plant) (i : SlotIx) :
    (p.freeSlot i).eng = { p.eng with
      allots := p.eng.allots.set i (p.allot i).freed
      binding := (p.freeSlot i).eng.binding, committed := p.eng.committed - (p.allot i).charge } := by
  have ho := p.freeSlot_frame i
  simp [Plant.freeSlot, Plant.setAllot, Plant.bindTerms, Plant.setCharge, Plant.allot]

/-- The clients after a retire report and the freeing of the slot (R87, R140). -/
theorem Plant.clients_releaseIdle {p : Plant} {i : SlotIx} {c : ClientIx} (ho : (p.allot i).owner = some c)
    (retires : Bool) :
    (p.releaseIdle i retires).clients = p.clients.set c { p.client c with
      claimed := (p.client c).claimed - (p.allot i).requestCost
      retired := if retires then min 255 ((p.client c).retired + 1) else (p.client c).retired } := by
  cases retires with
  | false => exact Plant.clients_freeSlot ho
  | true =>
    have hr : (p.retire i).allot i = p.allot i := by simp [Plant.allot]
    change ((p.retire i).freeSlot i).clients = _
    rw [Plant.clients_freeSlot (by rw [hr]; exact ho), hr]
    simp [Plant.retire, ho, Plant.setClient, Plant.client, Config.maxRetired]

theorem Plant.releaseIdle_eng (p : Plant) (i : SlotIx) (retires : Bool) :
    (p.releaseIdle i retires).eng = (p.freeSlot i).eng ∧ (p.releaseIdle i retires).out = p.out := by
  cases retires <;> simp [Plant.releaseIdle, Plant.freeSlot_frame]
  simp [Plant.freeSlot, Plant.setAllot, Plant.bindTerms, Plant.setCharge, Plant.allot]

/-- The release of an allotment that holds no output and no charge (R87): what it leaves of the engine. -/
theorem Plant.releaseOne_idle_eng {p : Plant} {i : SlotIx} (h : (p.allot i).state.idle = true)
    (hc : (p.allot i).charge = 0) (o : Origin) (retires : Bool) :
    let q := p.releaseOne o retires i
    q.eng = { p.eng with
        allots := p.eng.allots.set i (p.allot i).freed, binding := q.eng.binding
        queue := if (p.allot i).state = .waiting then p.eng.queue.filter fun h => h.slot ≠ i else p.eng.queue
        stage := if (p.allot i).state = .staged then none else p.eng.stage }
    ∧ (∀ n, q.eng.binding[n] = if n ∈ (p.allot i).terms.map Term.channel then none else p.eng.binding[n])
    ∧ q.out = p.out := by
  obtain ⟨he, ho, -⟩ := p.withoutEntry_frame i
  have ha : (p.withoutEntry i).allot i = p.allot i := by simp [Plant.allot, he]
  rw [Plant.releaseOne_idle h]
  simp only [Plant.releaseIdle_eng]
  refine ⟨?_, fun n => ?_, ho⟩
  · rw [Plant.freeSlot_eng, ha, hc, he]; simp
  · rw [Plant.binding_freeSlot, ha, he]

/-- An accepted RELEASE of such an allotment: the emptied stage brings a pass over the queue, nothing else does (R52). -/
theorem Plant.releaseAccepted_idle {p : Plant} {i : SlotIx} (h : (p.allot i).state.idle = true)
    (hc : (p.allot i).charge = 0) (hs : (p.allot i).state = .staged → p.eng.stage.isSome = true) (eff : Nat)
    (snd : Sender) :
    let q := p.releaseOne (originOf snd i) (clientOf snd).isNone i
    p.releaseAccepted eff snd i =
      if (p.allot i).state = .staged then passWalk eff (originOf snd i) p.eng.queue q else q := by
  intro q
  obtain ⟨he, -⟩ := Plant.releaseOne_idle_eng h hc (originOf snd i) (clientOf snd).isNone
  have hcom : q.eng.committed = p.eng.committed := (congrArg Engine.committed he :)
  have hstage : q.eng.stage = if (p.allot i).state = .staged then none else p.eng.stage :=
    (congrArg Engine.stage he :)
  by_cases hst : (p.allot i).state = .staged
  · have hqueue : q.eng.queue = p.eng.queue := by simpa [hst] using (congrArg Engine.queue he :)
    rw [if_pos hst] at hstage ⊢
    have htrig : releaseTrigger p q = true := by simp [releaseTrigger, hcom, hstage, hs hst]
    change q.passIf eff _ (releaseTrigger p q) = _
    simp [htrig, Plant.passIf, hstage, Plant.pass, hqueue]
  · rw [if_neg hst] at hstage ⊢
    have htrig : releaseTrigger p q = false := by cases hx : p.eng.stage <;> simp [releaseTrigger, hcom, hstage, hx]
    change q.passIf eff _ (releaseTrigger p q) = _
    rw [htrig, Plant.passIf_false]

/-- The reply to such a RELEASE shows the FREE slot with charge 0 (R92). -/
theorem Plant.releaseReply_idle {p : Plant} {i : SlotIx} (h : (p.allot i).state.idle = true)
    (hc : (p.allot i).charge = 0) (eff : Nat) (snd : Sender) :
    (p.releaseAccepted eff snd i).releaseReply (p.handleOf i)
      = .okWith ((p.handleOf i).bytes ++ [0, 0xFF, 0, 0]) := by
  have hq : (p.releaseOne (originOf snd i) (clientOf snd).isNone i).allot i = (p.allot i).freed := by
    have hall := congrArg (fun e : Engine => e.allots[i])
      (Plant.releaseOne_idle_eng h hc (originOf snd i) (clientOf snd).isNone).1
    simpa [Plant.allot] using hall
  have hf : ((p.releaseAccepted eff snd i).allot i) = (p.allot i).freed := by
    rw [Plant.releaseAccepted]
    rw [(Plant.passIf_chain _ _ _ _).allot_free (by rw [hq]; rfl), hq]
  change BlockReply.okWith (_ ++ [byte ((Plant.releaseAccepted p eff snd i).allot i).state.code,
    ((Plant.releaseAccepted p eff snd i).allot i).state.outcomeByte]
    ++ word ((Plant.releaseAccepted p eff snd i).allot i).charge) = _
  rw [hf, List.append_assoc]
  simp [Allotment.freed, Allotment.reset, AllotState.code, AllotState.outcomeByte, AllotState.outcome?, byte, word]

end Sys2Proof.Machine

open Sys2Proof Sys2Proof.Machine in
/-- Settles O28: the shared refusals, and the freeing of the slot with the pass that an emptied stage brings. -/
theorem releaseWithoutOutputFreesTheSlotAtOnce : Obligations.ReleaseWithoutOutputFreesTheSlotAtOnce := by
  refine ⟨fun s snd q h => release_tested.refusals h .release snd q, ?_⟩
  rintro s c i snd ⟨h, hact, hne, hown⟩ hsnd hcharge a e hb hstate
  have hidle : a.state.idle = true := by rcases hstate with hw | hw | ⟨hw, -⟩ <;> simp [AllotState.idle, hw]
  have hst : a.state = .staged → e.stage.isSome = true := by
    intro hs
    rcases hstate with hw | hw | ⟨-, hw⟩
    · simp [hs] at hw
    · simp [hs] at hw
    · simp [hw]
  have hp : s.present snd := by
    rcases hsnd with rfl | rfl
    exacts [State.present_client hact, s.present_supervisor]
  have ho : snd = .supervisor ∨ a.owner = clientOf snd := by
    rcases hsnd with rfl | rfl
    exacts [.inr hown, .inl rfl]
  have horigin : originOf snd i = if snd = .supervisor then .other else .owner i := by
    rcases hsnd with rfl | rfl <;> rfl
  have hretires : (clientOf snd).isNone = decide (snd = .supervisor) := by
    rcases hsnd with rfl | rfl <;> rfl
  let q := s.plant.releaseOne (originOf snd i) (clientOf snd).isNone i
  obtain ⟨heng, hbind, hout⟩ := Plant.releaseOne_idle_eng hidle hcharge (originOf snd i) (clientOf snd).isNone
  obtain ⟨hwe, -, hwc⟩ := s.plant.withoutEntry_frame i
  have hwa : (s.plant.withoutEntry i).allot i = a := by simp [Plant.allot, hwe, a]
  refine ⟨q, ?_, heng, hbind, hout, ?_⟩
  · change s.request .release snd (s.plant.handleOf i).bytes release = _
    rw [State.request_present h hp, release_ok hp hne ho, Plant.releaseReply_idle hidle hcharge,
      Plant.releaseAccepted_idle hidle hcharge hst, ← horigin]
    rfl
  · have hcl : (s.plant.withoutEntry i).client c = s.plant.client c := by simp [Plant.client, hwc]
    have hq : q = (s.plant.withoutEntry i).releaseIdle i (clientOf snd).isNone := Plant.releaseOne_idle hidle _ _
    rw [hq, Plant.clients_releaseIdle (by rw [hwa]; exact hown), hwa, hwc, hcl, hretires]
    simp [a]
end

section
/-! The tests of a CLAIM (R17, R18) and the layout of its payload (10.2). -/

namespace Sys2Proof.Machine

/-! ### The layout of 10.2 -/

/-- A presence flag is the bit of the flag byte. -/
theorem claimFlag_toNat (p : List Byte) (k : Nat) : (claimFlag p k).toNat = byteAt p 2 / 2 ^ k % 2 := by
  rw [claimFlag, BitVec.getLsbD, Nat.toNat_testBit]; rfl

theorem claimFlag_iff (p : List Byte) (k : Nat) : claimFlag p k = true ↔ byteAt p 2 / 2 ^ k % 2 = 1 := by
  rw [← claimFlag_toNat]; cases claimFlag p k <;> simp

theorem claimRunAt_eq (p : List Byte) : claimRunAt p = 3 + 2 * byteAt p 1 + byteAt p 2 / 2 ^ 0 % 2 := by
  rw [claimRunAt, claimFlag_toNat]; rfl

theorem claimTagAt_eq (p : List Byte) :
    claimTagAt p = 3 + 2 * byteAt p 1 + byteAt p 2 / 2 ^ 0 % 2 + 2 * (byteAt p 2 / 2 ^ 1 % 2) := by
  rw [claimTagAt, claimRunAt_eq, claimFlag_toNat]

theorem claimLengthOk_iff (p : List Byte) :
    claimLengthOk p = true ↔ 3 ≤ p.length
      ∧ p.length = 3 + 2 * byteAt p 1 + byteAt p 2 / 2 ^ 0 % 2 + 2 * (byteAt p 2 / 2 ^ 1 % 2)
          + 2 * (byteAt p 2 / 2 ^ 2 % 2) := by
  simp only [claimLengthOk, claimTagAt_eq, claimFlag_toNat, Bool.and_eq_true, decide_eq_true_eq, beq_iff_eq]

theorem claimFloor_eq (p : List Byte) :
    claimFloor p = if byteAt p 2 / 2 ^ 0 % 2 = 1 then some (byteAt p (3 + 2 * byteAt p 1)) else none := by
  simp only [claimFloor, claimFlag_iff, claimTermsEnd]

theorem claimRun_eq (p : List Byte) :
    claimRun p = if byteAt p 2 / 2 ^ 1 % 2 = 1 then
      some (256 * byteAt p (3 + 2 * byteAt p 1 + byteAt p 2 / 2 ^ 0 % 2)
        + byteAt p (3 + 2 * byteAt p 1 + byteAt p 2 / 2 ^ 0 % 2 + 1)) else none := by
  simp only [claimRun, claimFlag_iff, wordAt, claimRunAt_eq]

theorem claimTag_eq (p : List Byte) :
    claimTag p = if byteAt p 2 / 2 ^ 2 % 2 = 1 then
      some (BitVec.ofNat 16 (256 * byteAt p (claimTagAt p) + byteAt p (claimTagAt p + 1))) else none := by
  simp only [claimTag, claimFlag_iff, wordAt]

/-- No two of the pairs name the same channel exactly when the channel bytes at different places differ. -/
theorem claimPairs_nodup (p : List Byte) :
    ((claimPairs p).map (·.1)).Nodup ↔
      ∀ j k, j < k → k < byteAt p 1 → byteAt p (3 + 2 * j) ≠ byteAt p (3 + 2 * k) := by
  unfold claimPairs List.Nodup
  rw [List.map_map, List.pairwise_map, List.pairwise_iff_getElem]
  simp only [List.length_range, List.getElem_range, Function.comp_apply]
  exact ⟨fun h j k hjk hk => h j k (hjk.trans hk) hk hjk, fun h j k _ hk hjk => h j k hjk hk⟩

/-- Order 5 of R17, with the ranges of 10.2 written out. -/
theorem claimFieldsOk_iff (p : List Byte) :
    claimFieldsOk p = true ↔ byteAt p 0 ≤ 5 ∧ 1 ≤ byteAt p 1 ∧ byteAt p 1 ≤ 4 ∧ byteAt p 2 ≤ 7
      ∧ (∀ k < byteAt p 1, byteAt p (3 + 2 * k) ≤ 15 ∧ 1 ≤ byteAt p (4 + 2 * k))
      ∧ (∀ j k, j < k → k < byteAt p 1 → byteAt p (3 + 2 * j) ≠ byteAt p (3 + 2 * k))
      ∧ (byteAt p 2 / 2 ^ 0 % 2 = 1 → 1 ≤ byteAt p (3 + 2 * byteAt p 1) ∧ byteAt p (3 + 2 * byteAt p 1) ≤ 15)
      ∧ (byteAt p 2 / 2 ^ 1 % 2 = 1 → 1 ≤ 256 * byteAt p (3 + 2 * byteAt p 1 + byteAt p 2 / 2 ^ 0 % 2)
          + byteAt p (3 + 2 * byteAt p 1 + byteAt p 2 / 2 ^ 0 % 2 + 1)) := by
  have hpairs : ((claimPairs p).all fun t => decide (t.1 ≤ 15) && decide (1 ≤ t.2)) = true ↔
      ∀ k < byteAt p 1, byteAt p (3 + 2 * k) ≤ 15 ∧ 1 ≤ byteAt p (4 + 2 * k) := by simp [claimPairs]
  have hfloor : (match claimFloor p with | some f => decide (1 ≤ f ∧ f ≤ 15) | none => true) = true ↔
      (byteAt p 2 / 2 ^ 0 % 2 = 1 → 1 ≤ byteAt p (3 + 2 * byteAt p 1) ∧ byteAt p (3 + 2 * byteAt p 1) ≤ 15) := by
    rw [claimFloor_eq]; split <;> rename_i h <;> split at h <;> simp_all
  have hrun : (match claimRun p with | some r => decide (1 ≤ r) | none => true) = true ↔
      (byteAt p 2 / 2 ^ 1 % 2 = 1 → 1 ≤ 256 * byteAt p (3 + 2 * byteAt p 1 + byteAt p 2 / 2 ^ 0 % 2)
          + byteAt p (3 + 2 * byteAt p 1 + byteAt p 2 / 2 ^ 0 % 2 + 1)) := by
    rw [claimRun_eq]; split <;> rename_i h <;> split at h <;> simp_all
  rw [claimFieldsOk]
  simp only [Bool.and_eq_true, hpairs, claimPairs_nodup, decide_eq_true_eq]
  constructor
  · rintro ⟨⟨⟨⟨⟨⟨⟨h1, h4⟩, h0⟩, hp⟩, hf⟩, hr⟩, hd⟩, h2⟩
    exact ⟨h0, h1, h4, by omega, hp, hd, hfloor.mp hf, hrun.mp hr⟩
  · rintro ⟨h0, h1, h4, h2, hp, hd, hf, hr⟩
    exact ⟨⟨⟨⟨⟨⟨⟨h1, h4⟩, h0⟩, hp⟩, hfloor.mpr hf⟩, hrun.mpr hr⟩, hd⟩, by omega⟩

/-- The terms of a payload within its field ranges, read as numbers in the order given (R7, 10.2). -/
theorem claimTerms_values {p : List Byte} (h : ∀ k < byteAt p 1, byteAt p (3 + 2 * k) ≤ 15) :
    (claimTerms p).map (fun t => (t.channel.val, t.requested, t.target))
      = (List.range (byteAt p 1)).map fun k => (byteAt p (3 + 2 * k), byteAt p (4 + 2 * k), 0) := by
  simp only [claimTerms, claimPairs, List.map_map]
  refine List.map_congr_left fun k hk => ?_
  have := h k (List.mem_range.mp hk)
  simp [Fin.ofNat, Nat.mod_eq_of_lt (show byteAt p (3 + 2 * k) < 16 by omega)]

/-! ### The tests in their order (R17, R18) -/

/-- Channels that pass order 6: enabled, not FAULTED, unbound (R18). -/
def Plant.claimable (p : Plant) (n : ChannelIx) : Prop :=
  (p.chan n).enabled = true ∧ (p.chan n).state ≠ .faulted ∧ p.eng.binding[n] = none

theorem Plant.channelTest_none {p : Plant} {n : ChannelIx} : p.channelTest n = none ↔ p.claimable n := by
  unfold Plant.channelTest Plant.claimable
  cases he : (p.chan n).enabled <;> simp
  split <;> simp_all

/-- Order 6 passes when every channel passes it. -/
theorem Plant.claimChannelTest_none {p : Plant} {ts : List Term} :
    p.claimChannelTest ts = none ↔ ∀ u ∈ ts, p.claimable u.channel := by
  induction ts with
  | nil => simp [Plant.claimChannelTest]
  | cons t rest ih =>
    unfold Plant.claimChannelTest
    cases ht : p.channelTest t.channel with
    | none => simp [ih, Plant.channelTest_none.mp ht]
    | some st =>
      have : ¬p.claimable t.channel := fun hc => by simp [Plant.channelTest_none.mpr hc] at ht
      simp [this]

/-- Order 6 stops at the first channel, in term order, that fails it (R18). -/
theorem Plant.claimChannelTest_first {p : Plant} {pre post : List Term} {t : Term} {st : Status}
    (hpre : ∀ u ∈ pre, p.claimable u.channel) (ht : p.channelTest t.channel = some st) :
    p.claimChannelTest (pre ++ t :: post) = some (st, t.channel) := by
  induction pre with
  | nil => simp [Plant.claimChannelTest, ht]
  | cons u rest ih =>
    have hu := Plant.channelTest_none.mpr (hpre u List.mem_cons_self)
    simp only [List.cons_append, Plant.claimChannelTest, hu]
    exact ih fun v hv => hpre v (List.mem_cons_of_mem _ hv)

theorem Plant.lowestFree_none {p : Plant} (h : ∀ i, (p.allot i).state ≠ .free) : p.lowestFree = none := by
  simp [Plant.lowestFree, h]

/-- A CLAIM from an ACTIVE client in RUN whose length and fields are those of the layout has reached order 6 of R17. -/
structure State.claimReaches (s : State) (c : ClientIx) (p : List Byte) : Prop where
  run : s.ctl.part = .run
  active : (s.plant.client c).state = .active
  length : claimLengthOk p = true
  fields : claimFieldsOk p = true

theorem claim_channel {s : State} {c : ClientIx} {p : List Byte} (h : s.claimReaches c p) {st : Status} {n : ChannelIx}
    (ht : s.plant.claimChannelTest (claimTerms p) = some (st, n)) :
    claim (.client c) p s = (s, ⟨st, [channelByte n]⟩) := by
  simp [claim, h.run, State.notActive, h.active, h.length, h.fields, ht]

/-- Orders 7 to 9 of R17. -/
theorem claim_limits {s : State} {c : ClientIx} {p : List Byte} (h : s.claimReaches c p)
    (ht : s.plant.claimChannelTest (claimTerms p) = none) :
    claim (.client c) p s =
      let cost := s.plant.requestCostOf (claimTerms p)
      if s.lim.configured < cost then s.refuse .overCeiling
      else if (s.plant.client c).quota < (s.plant.client c).claimed + cost then s.refuse .overQuota
      else match s.plant.lowestFree with
        | none => s.refuse .tableFull
        | some i => (s.setPlant (s.plant.claimAccepted s.lim.effective c p i),
            (s.plant.claimAccepted s.lim.effective c p i).claimReply i) := by
  simp only [claim, h.run, State.notActive, h.active, h.length, h.fields, ht]; rfl

end Sys2Proof.Machine

open Sys2Proof Sys2Proof.Machine in
/-- Settles O22: the layout read out by its lemmas, and each test's refusal by the equations of CLAIM. -/
theorem claimRefusedByTheFirstFailingTest : Obligations.ClaimRefusedByTheFirstFailingTest := by
  intro s c p h hrun x cost refused at_ bit n floorAt runAt tagAt lengthFits fieldsFit
  have hlen : claimLengthOk p = true ↔ lengthFits := claimLengthOk_iff p
  have hfields : claimFieldsOk p = true ↔ fieldsFit := claimFieldsOk_iff p
  have answer {b : BlockReply} (hne : x.state ≠ .unset) (hb : claim (.client c) p s = (s, b)) : refused b := by
    change s.request .claim (.client c) p claim = _
    rw [State.request_client h _ _ _ hne, hb]
  have reaches (ha : x.state = .active) (hl : lengthFits) (hf : fieldsFit) : s.claimReaches c p :=
    ⟨hrun, ha, hlen.mpr hl, hfields.mpr hf⟩
  refine ⟨fun hi => ?idle, fun hl => ?lapsed, fun ha hl => ?length, fun ha hl hf => ?fields,
    fun ha hl hf pre post t hts hpre => ?channels, fun ha hl hf hch => ?limits, hlen, fun _ => hfields,
    fun hl hf => ?layout⟩
  case idle => exact answer (by simp [hi]) (by simp [claim, hrun, State.notActive_idle hi, State.refuse])
  case lapsed => exact answer (by simp [hl]) (by simp [claim, hrun, State.notActive_lapsed hl, State.refuse])
  case length =>
    have : claimLengthOk p = false := by simpa using mt hlen.mp hl
    exact answer (by simp [ha]) (by
      simp [claim, hrun, State.notActive_present (State.present_client ha), this, State.refuse])
  case fields =>
    have : claimFieldsOk p = false := by simpa using mt hfields.mp hf
    exact answer (by simp [ha]) (by
      simp [claim, hrun, State.notActive_present (State.present_client ha), hlen.mpr hl, this, State.refuse])
  case channels =>
    have fails {st : Status} (ht : s.plant.channelTest t.channel = some st) :
        refused ⟨st, [channelByte t.channel]⟩ :=
      answer (by simp [ha]) (claim_channel (reaches ha hl hf) (hts ▸ Plant.claimChannelTest_first hpre ht))
    refine ⟨fun he => fails ?_, fun he hs => fails ?_, fun he hs hb => fails ?_⟩
    · simp [Plant.channelTest, he]
    · simp [Plant.channelTest, he, hs]
    · have hb' : (s.plant.eng.binding[t.channel]).isSome = true := Option.isSome_iff_ne_none.mpr hb
      simp only [Plant.channelTest, he, hs, hb', Bool.not_true, if_false, if_true, Bool.false_eq_true]
  case limits =>
    have hlim := claim_limits (reaches ha hl hf) (Plant.claimChannelTest_none.mpr hch)
    refine ⟨fun hc => answer (by simp [ha]) ?_, fun hc hq => answer (by simp [ha]) ?_,
      fun hc hq hfree => answer (by simp [ha]) ?_⟩
    · rw [hlim, if_pos hc]; rfl
    · rw [hlim, if_neg (Nat.not_lt.mpr hc), if_pos hq]; rfl
    · rw [hlim, if_neg (Nat.not_lt.mpr hc), if_neg (Nat.not_lt.mpr hq), Plant.lowestFree_none hfree]; rfl
  case layout =>
    obtain ⟨h0, h1, h4, h2, hp, hd, hfl, hr⟩ := hf
    have htag : claimTagAt p = tagAt := claimTagAt_eq p
    refine ⟨Nat.mod_eq_of_lt (show at_ 0 < 6 by omega), claimTerms_values fun k hk => (hp k hk).1, claimFloor_eq p,
      claimRun_eq p, ?_⟩
    rw [claimTag_eq, htag]; rfl
end

section
/-! What a command can do to the three blocks the engine acts on, said once. Every command but a CLAIM, a new effective
ceiling, a HALT, the configuration of a client or a channel in SETUP and a reset is a chain of acts, each of which carries
the conditions under which the model takes it. -/

namespace Sys2Proof.Machine

/-! ### The parts of an event before its pass -/

/-- The oldest report of channel `n` taken from those that wait (R72). -/
def Plant.withoutReport (p : Plant) (n : ChannelIx) : Plant :=
  { p with out := { p.out with reports := p.out.reports.eraseP fun r => r.channel == n } }

/-- The channel of a report has settled (R72). -/
def Plant.noteSettled (p : Plant) (i : SlotIx) (n : ChannelIx) : Plant :=
  p.setAllot i { p.allot i with unsettled := (p.allot i).unsettled.erase n }

/-- A RISING allotment becomes RUNNING (R73), without the pass that follows. -/
def Plant.endRise (p : Plant) (i : SlotIx) : Plant :=
  ((p.setState i .running).setCharge i (p.allot i).requestCost).markChanged .other i

/-- A run-limit expiry (R78), without the pass that follows. -/
def Plant.expired (p : Plant) (i : SlotIx) : Plant :=
  let a := p.allot i
  let p1 := p.setAllot i { a with run := a.run.map fun r => { r with remaining := 0, counted := 0 } }
  (((p1.leaveQueue i).fallToFree i).markChanged .other i).retire i

/-- A RETRY that left no channel FAULTED (R124), without the pass that follows. -/
def Plant.requeued (p : Plant) (o : Origin) (i : SlotIx) : Plant :=
  (((p.setAllot i { (p.allot i).halted with state := .waiting }).setCharge i 0).queueBack i).markChanged o i

/-- A channel latched by its fault input (R115). -/
def Plant.latch (p : Plant) (n : ChannelIx) : Plant := { p with out := p.out.latch n }

/-- New levels with the queue regrouped under them (R43), without the pass that follows. -/
def Plant.relevelled (p : Plant) (levels : Vector (Fin 4) 6) : Plant :=
  ({ p with eng := { p.eng with levels := levels } } : Plant).regroup

/-- The output stage after some frame starts, frame counts or a stored timing (R99, R102, R103). -/
inductive OutputStage.Runs (o : OutputStage) : OutputStage → Prop
  | refl : Runs o o
  | frame {o' : OutputStage} (h : Runs o o') : Runs o o'.frameStart
  | count {o' : OutputStage} (h : Runs o o') (hc : o'.frameCount + 1 < Config.frameCounts) :
      Runs o { o' with frameCount := o'.frameCount + 1 }
  | timing {o' : OutputStage} (h : Runs o o') (t : Timing) : Runs o { o' with nextTiming := some t }

/-! ### The acts -/

/-- One act of the engine, the output stage or the client table at the effective ceiling `eff`, with what the model tests
before it. -/
inductive Plant.Act (eff : Nat) (p : Plant) : Plant → Prop
  | pass {o : Origin} {q : Plant} (h : Plant.PassAct eff o p q) : Act eff p q
  /-- R65. -/
  | resolve (h : Handle) (hs : p.eng.stage = some h) : Act eff p (p.resolveSlot eff h.slot)
  /-- R15, R24, R144. -/
  | unflag (i : SlotIx) (hn : (p.allot i).state ≠ .free) : Act eff p (p.clearChanged i)
  /-- R72: the report is not one for the engine. -/
  | dropReport (n : ChannelIx) : Act eff p (p.withoutReport n)
  /-- R72. -/
  | takeReport (n : ChannelIx) (r : Report) (h : Handle) (hr : p.out.reports.find? (fun r => r.channel == n) = some r)
      (hb : p.eng.binding[r.channel] = some h) (ht : (p.allot h.slot).takesReport r = true) :
      Act eff p ((p.withoutReport n).noteSettled h.slot r.channel)
  /-- R73. -/
  | endRise (i : SlotIx) (hs : (p.allot i).state = .rising) (hu : (p.allot i).unsettled = []) : Act eff p (p.endRise i)
  /-- R74. -/
  | endFall (i : SlotIx) (o : FallOutcome) (hs : (p.allot i).state = .falling o) (hu : (p.allot i).unsettled = []) :
      Act eff p (p.endFall i o)
  /-- R87 to R91. -/
  | release (o : Origin) (retires : Bool) (i : SlotIx) : Act eff p (p.releaseOne o retires i)
  /-- R115: the channel is bound to no allotment. -/
  | latch (n : ChannelIx) (hf : (p.chan n).state ≠ .faulted) (hb : p.eng.binding[n] = none) : Act eff p (p.latch n)
  /-- R116 to R120. -/
  | trip (n : ChannelIx) (h : Handle) (hf : (p.chan n).state ≠ .faulted) (hb : p.eng.binding[n] = some h) :
      Act eff p ((p.latch n).tripOne h.slot)
  /-- R76. -/
  | runTick (i : SlotIx) (r : Option RunTimer) (hs : (p.allot i).state.runs = true) :
      Act eff p (p.setAllot i { p.allot i with run := r })
  /-- R78. -/
  | expire (i : SlotIx) (hs : (p.allot i).state.runs = true) : Act eff p (p.expired i)
  /-- R81 to R83. -/
  | reshape (i : SlotIx) (ds : List Nat) (hl : ds.length = (p.allot i).terms.length) (hd : ∀ d ∈ ds, d ≠ 0)
      (hs : (p.allot i).state = .running ∨ (p.allot i).state = .waiting)
      (hf : (p.allot i).state = .running → raisesDuty (p.allot i).terms ds = true →
        p.eng.committed + p.reserve + (p.reshapeCharge (p.allot i) ds - (p.allot i).charge) ≤ eff) :
      Act eff p (p.reshapeAccepted i ds)
  /-- R124, R126. -/
  | clearLatch (n : ChannelIx) (hf : (p.chan n).state = .faulted) : Act eff p (p.setChan n (p.chan n).cleared)
  /-- R124. -/
  | retry (o : Origin) (i : SlotIx) (hs : (p.allot i).state = .tripped)
      (hf : ∀ t ∈ (p.allot i).terms, (p.chan t.channel).state ≠ .faulted) : Act eff p (p.requeued o i)
  /-- A client's record other than its claimed total. -/
  | client (c : ClientIx) (x : Client) (hx : x.claimed = (p.client c).claimed) : Act eff p (p.setClient c x)
  /-- R43. -/
  | levels (levels : Vector (Fin 4) 6) : Act eff p (p.relevelled levels)
  /-- R99 to R107. -/
  | output (o : OutputStage) (h : p.out.Runs o) : Act eff p { p with out := o }

/-- A chain of acts. -/
abbrev Plant.Acts (eff : Nat) : Plant → Plant → Prop := Relation.ReflTransGen (Plant.Act eff)

theorem Plant.PassChain.acts {eff : Nat} {o : Origin} {p q : Plant} (h : Plant.PassChain eff o p q) :
    Plant.Acts eff p q := h.lift id fun _ _ => .pass

theorem Plant.passIf_acts (p : Plant) (eff : Nat) (o : Origin) (t : Bool) : Plant.Acts eff p (p.passIf eff o t) :=
  (p.passIf_chain eff o t).acts

theorem Plant.resolveSlot_stage (p : Plant) (eff : Nat) (i : SlotIx) : (p.resolveSlot eff i).eng.stage = none := by
  unfold Plant.resolveSlot; simp only; split <;> simp

/-- The end of an event: the stage's resolution with its pass, a pass, or nothing (R64, R65). -/
theorem Plant.settleStage_acts (p : Plant) (eff : Nat) (t : Bool) : Plant.Acts eff p (p.settleStage eff t) := by
  unfold Plant.settleStage
  split
  next h hs =>
    split
    next => exact .refl
    next => exact .head (.resolve h hs) (Plant.pass_chain (p.resolveSlot_stage eff h.slot)).acts
  next hs =>
    split
    next => exact (Plant.pass_chain hs).acts
    next => exact .refl

theorem Plant.releaseAccepted_acts (p : Plant) (eff : Nat) (snd : Sender) (i : SlotIx) :
    Plant.Acts eff p (p.releaseAccepted eff snd i) := .head (.release _ _ i) (Plant.passIf_acts _ _ _ _)

theorem Plant.clientRelease_acts (p : Plant) (eff : Nat) (o : Origin) (retires : Bool) (c : ClientIx) :
    Plant.Acts eff p (p.clientRelease eff o retires c) := by
  have hrel : ∀ (l : List SlotIx) (q : Plant), Plant.Acts eff q (l.foldl (fun q i => q.releaseOne o retires i) q) := by
    intro l
    induction l with
    | nil => exact fun q => .refl
    | cons i l ih => exact fun q => .head (.release o retires i) (ih _)
  exact (hrel _ p).trans (Plant.passIf_acts _ _ _ _)

theorem Plant.faultActive_acts (p : Plant) (eff : Nat) (n : ChannelIx) : Plant.Acts eff p (p.faultActive eff n) := by
  unfold Plant.faultActive
  split
  next => exact .refl
  next hf =>
    change Plant.Acts eff p ((p.latch n).faultReport eff n)
    cases hb : p.eng.binding[n] with
    | none =>
      have hq : (p.latch n).faultReport eff n = p.latch n := by
        unfold Plant.faultReport; rw [show (p.latch n).eng.binding[n] = none from hb]
      rw [hq]; exact .single (.latch n hf hb)
    | some h =>
      have ht : Plant.Acts eff p ((p.latch n).tripOne h.slot) := .single (.trip n h hf hb)
      unfold Plant.faultReport
      rw [show (p.latch n).eng.binding[n] = some h from hb]
      simp only
      split
      · exact ht
      · exact ht
      · exact ht
      · exact ht.trans (Plant.passIf_acts _ _ _ _)
      all_goals exact ht.trans (Plant.settleStage_acts _ _ _)

theorem Plant.expireRun_acts {p : Plant} (eff : Nat) {i : SlotIx} (hs : (p.allot i).state.runs = true) :
    Plant.Acts eff p (p.expireRun eff i) := .head (.expire i hs) (Plant.passIf_acts (p.expired i) _ _ _)

theorem Plant.runTenth_acts (p : Plant) (eff : Nat) (i : SlotIx) : Plant.Acts eff p (p.runTenth eff i) := by
  unfold Plant.runTenth
  simp only
  split
  next => exact .refl
  next r _ =>
    split
    next => exact .refl
    next hr =>
      have hs : (p.allot i).state.runs = true := by simpa using hr
      split
      next => exact Plant.expireRun_acts eff hs
      next => exact .single (.runTick i _ hs)

theorem Plant.settle_acts {p : Plant} (eff : Nat) {i : SlotIx} (hu : (p.allot i).unsettled = []) :
    Plant.Acts eff p (p.settle eff i) := by
  unfold Plant.settle
  split
  next hs => exact .head (.endRise i hs hu) (Plant.passIf_acts (p.endRise i) _ _ _)
  next o hs => exact .head (.endFall i o hs hu) (Plant.settleStage_acts _ _ _)
  all_goals exact .refl

/-- SETTLED_REPORT: the report is taken from those that wait, and is discarded or counts for its allotment (R72). -/
theorem Plant.takeReport_acts {p : Plant} (eff : Nat) {n : ChannelIx} {r : Report}
    (hr : p.out.reports.find? (fun r => r.channel == n) = some r) :
    Plant.Acts eff p ((p.withoutReport n).takeReport eff r) := by
  have hdrop : Plant.Acts eff p (p.withoutReport n) := .single (.dropReport n)
  cases hb : p.eng.binding[r.channel] with
  | none =>
    unfold Plant.takeReport
    rw [show (p.withoutReport n).eng.binding[r.channel] = none from hb]; exact hdrop
  | some h =>
    unfold Plant.takeReport
    rw [show (p.withoutReport n).eng.binding[r.channel] = some h from hb]
    simp only
    split
    next ht =>
      have hact : Plant.Acts eff p ((p.withoutReport n).noteSettled h.slot r.channel) :=
        .single (.takeReport n r h hr hb ht)
      split
      next hu => exact hact.trans (Plant.settle_acts eff (by rw [Plant.noteSettled, Plant.allot_setAllot_self]; exact hu))
      next => exact hact
    next => exact hdrop

theorem OutputStage.toStepFrame_runs (k : Nat) (o o' : OutputStage) (h : o.Runs o') :
    o.Runs (OutputStage.toStepFrame k o') := by
  induction k generalizing o' with
  | zero => exact h
  | succ k ih =>
    unfold OutputStage.toStepFrame
    split
    · exact .frame h
    · exact ih _ (.frame h)

theorem OutputStage.advance_runs (o : OutputStage) : o.Runs o.advance := by
  unfold OutputStage.advance
  split
  next h => exact .count .refl h
  next => exact .frame .refl

end Sys2Proof.Machine
end

section
/-! What a step does to the engine, the output stage, the client table and the limit unit: one case per kind of command. -/

namespace Sys2Proof.Machine

/-! ### The kinds of steps -/

/-- The part state, the power-on reset and the pins but for the fault inputs are as they were. -/
structure State.Keeps (s t : State) : Prop where
  part : t.ctl.part = s.ctl.part
  pending : t.ctl.powerOnPending = s.ctl.powerOnPending
  derateLow : t.pins.derateLow = s.pins.derateLow
  supplyOk : t.pins.supplyOk = s.pins.supplyOk
  resetnHigh : t.pins.resetnHigh = s.pins.resetnHigh

theorem State.Keeps.refl (s : State) : s.Keeps s := ⟨rfl, rfl, rfl, rfl, rfl⟩

/-- The changes after which the limit unit recomputes the effective ceiling (R27, R28, R29, R32, R168). -/
inductive State.Relimits (s : State) : State → Prop
  | store (configured derated hold : Nat) :
      Relimits s { s with lim := { s.lim with configured := configured, derated := derated, hold := hold } }
  | commit (h : s.ctl.part = .setup) : Relimits s (s.setPart .run)
  | falls (h : s.lim.derate = .normal) : Relimits s ((s.setDerateLow true).setDerate .derated s.lim.holdTimer)
  | rises (h : s.lim.derate = .derated) : Relimits s ((s.setDerateLow false).setDerate .normal none)
  | expires (h : s.lim.derate = .holding) : Relimits s (s.setDerate .normal none)

/-- The changes of DERATEn after which the effective ceiling is not recomputed (R27, R28). -/
inductive State.Rederates (s : State) : State → Prop
  | fallsDerated (h : s.lim.derate = .derated) : Rederates s (s.setDerateLow true)
  | fallsHolding (h : s.lim.derate = .holding) : Rederates s ((s.setDerateLow true).setDerate .derated none)
  | risesDerated (h : s.lim.derate = .derated) (k : Nat) :
      Rederates s ((s.setDerateLow false).setDerate .holding (some k))
  | risesOther (h : s.lim.derate ≠ .derated) : Rederates s (s.setDerateLow false)

/-- What a step does from `s` to `t`, but for the exchange port and what is returned. -/
inductive State.Effect (s t : State) : Prop
  | acts (h : Plant.Acts s.lim.effective s.plant t.plant) (hl : t.lim = s.lim) (hk : s.Keeps t)
  /-- R19. -/
  | claim (c : ClientIx) (p : List Byte) (i : SlotIx) (hp : s.claimPasses c p i)
      (h : Plant.Acts s.lim.effective (s.plant.createAllotment c p i) t.plant) (hl : t.lim = s.lim) (hk : s.Keeps t)
  /-- R98 in SETUP. -/
  | channel (n : ChannelIx) (enable : Bool) (rating step : Nat) (low : Bool) (hs : s.ctl.part = .setup)
      (h : t.plant = s.plant.setChan n ((s.plant.chan n).configure enable rating step low)) (hl : t.lim = s.lim)
      (hk : s.Keeps t)
  /-- R133 in SETUP. -/
  | configured (c : ClientIx) (x : Client) (hx : x.claimed = 0) (hs : s.ctl.part = .setup)
      (h : t.plant = s.plant.setClient c x) (hl : t.lim = s.lim) (hk : s.Keeps t)
  /-- R26, R36. -/
  | relimit (s' : State) (hr : s.inReset = false) (h : s.Relimits s') (hp : t.plant = s'.recompute.plant)
      (hl : t.lim = s'.recompute.lim) (hk : s'.Keeps t)
  | rederate (s' : State) (hr : s.inReset = false) (h : s.Rederates s') (hp : t.plant = s.plant) (hl : t.lim = s'.lim)
      (hk : s'.Keeps t)
  /-- R170. -/
  | halt (h : t.plant = s.plant.halt) (hl : t.lim = { s.lim with effective := 0 }) (hk : (s.setPart .setup).Keeps t)
  /-- R174, R175: a reset begins or ends. -/
  | reset (h : t.plant = Plant.reset) (hl : t.lim = LimitUnit.reset t.pins.derateLow) (hp : t.ctl.part = .setup)
      (hs : t.pins.supplyOk = true ∨ t.ctl.powerOnPending = true ∨ (t.ctl.powerOnPending = s.ctl.powerOnPending
        ∧ t.pins.supplyOk = s.pins.supplyOk))
  /-- R25, R177: DERATEn or RESETn moves, and the part is still held in reset. -/
  | held (h : t.plant = s.plant) (hl : t.lim = s.lim) (hc : t.ctl = s.ctl) (hr : t.inReset = true)
      (hv : t.pins.supplyOk = s.pins.supplyOk)
  /-- R177. -/
  | supply (h : t.plant = s.plant) (hl : t.lim = s.lim) (hc : t.ctl = s.ctl)
      (hp : t.pins = { s.pins with supplyOk := true })

/-- Only these parts of the state after a step matter to its kind. -/
theorem State.Effect.congr {s t t' : State} (h : s.Effect t) (hp : t'.plant = t.plant) (hl : t'.lim = t.lim)
    (hc : t'.ctl = t.ctl) (hi : t'.pins = t.pins) : s.Effect t' := by
  have keeps {r : State} (hk : r.Keeps t) : r.Keeps t' := by
    obtain ⟨h1, h2, h3, h4, h5⟩ := hk
    exact ⟨hc ▸ h1, hc ▸ h2, hi ▸ h3, hi ▸ h4, hi ▸ h5⟩
  cases h with
  | acts h h2 hk => exact .acts (hp ▸ h) (hl.trans h2) (keeps hk)
  | claim c p i hpass h h2 hk => exact .claim c p i hpass (hp ▸ h) (hl.trans h2) (keeps hk)
  | channel n e r st low hs h h2 hk => exact .channel n e r st low hs (hp.trans h) (hl.trans h2) (keeps hk)
  | configured c x hx hs h h2 hk => exact .configured c x hx hs (hp.trans h) (hl.trans h2) (keeps hk)
  | relimit s' hr h h1 h2 hk => exact .relimit s' hr h (hp.trans h1) (hl.trans h2) (keeps hk)
  | rederate s' hr h h1 h2 hk => exact .rederate s' hr h (hp.trans h1) (hl.trans h2) (keeps hk)
  | halt h h2 hk => exact .halt (hp.trans h) (hl.trans h2) (keeps hk)
  | reset h h2 h3 h4 => exact .reset (hp.trans h) (by rw [hl, h2, hi]) (by rw [hc, h3]) (by rw [hc, hi]; exact h4)
  | held h h2 h3 h4 h5 =>
    exact .held (hp.trans h) (hl.trans h2) (hc.trans h3) (by rw [← h4]; simp [State.inReset, hc, hi]) (by rw [hi, h5])
  | supply h h2 h3 h4 => exact .supply (hp.trans h) (hl.trans h2) (hc.trans h3) (hi.trans h4)

theorem State.Effect.refl (s : State) : s.Effect s := .acts .refl rfl (.refl s)

/-- A step that only changes the plant, by acts. -/
theorem State.Effect.ofPlant {s : State} {q : Plant} (h : Plant.Acts s.lim.effective s.plant q) :
    s.Effect (s.setPlant q) := .acts h rfl ⟨rfl, rfl, rfl, rfl, rfl⟩

/-- A test of a request either refuses, and nothing changes, or the request goes on (R178). -/
theorem State.Effect.guard {s : State} {c : Prop} [Decidable c] {st : Status} {x : State × BlockReply}
    (h : ¬c → s.Effect x.1) : s.Effect (if c then s.refuse st else x).1 := by
  split
  next => exact .refl s
  next hc => exact h hc

/-! ### The requests -/

theorem State.clearLatch_acts (s : State) (n : ChannelIx) (eff : Nat) :
    ∃ q, s.clearLatch n = s.setPlant q ∧ Plant.Acts eff s.plant q ∧ q.eng = s.plant.eng := by
  unfold State.clearLatch
  split
  next h => exact ⟨_, rfl, .single (.clearLatch n h.1), rfl⟩
  next => exact ⟨s.plant, rfl, .refl, rfl⟩

theorem State.clearLatches_acts (ts : List Term) (s : State) (eff : Nat) :
    ∃ q, s.clearLatches ts = s.setPlant q ∧ Plant.Acts eff s.plant q ∧ q.eng = s.plant.eng := by
  induction ts generalizing s with
  | nil => exact ⟨s.plant, rfl, .refl, rfl⟩
  | cons t ts ih =>
    obtain ⟨q, hq, ha, he⟩ := s.clearLatch_acts t.channel eff
    obtain ⟨q', hq', ha', he'⟩ := ih (s.setPlant q)
    exact ⟨q', by rw [State.clearLatches, List.foldl_cons, hq]; exact hq', ha.trans ha', he'.trans he⟩

theorem State.handleTest_present {s : State} {snd : Sender} {p : List Byte} {i : SlotIx}
    (h : s.handleTest snd p = .ok i) : (s.plant.allot i).state ≠ .free := by
  unfold State.handleTest at h
  split at h
  next => cases h
  next j _ =>
    simp only at h
    split_ifs at h with h1 h2
    cases h; exact h2.1

theorem clearChanged_foldl_acts (eff : Nat) (l : List SlotIx) (p : Plant)
    (h : ∀ i ∈ l, (p.allot i).state ≠ .free) : Plant.Acts eff p (l.foldl Plant.clearChanged p) := by
  induction l generalizing p with
  | nil => exact .refl
  | cons i l ih =>
    refine .head (.unflag i (h i List.mem_cons_self)) (ih _ fun j hj => ?_)
    rw [Plant.clearChanged, Plant.allot_setAllot]
    split
    next => exact h i List.mem_cons_self
    next => exact h j (List.mem_cons_of_mem _ hj)

theorem Plant.mem_ownedBy {p : Plant} {c : ClientIx} {i : SlotIx} :
    i ∈ p.ownedBy c ↔ (p.allot i).state ≠ .free ∧ (p.allot i).owner = some c := by
  simp [Plant.ownedBy, allSlots]

theorem Plant.mem_inUse {p : Plant} {i : SlotIx} : i ∈ p.inUse ↔ (p.allot i).state ≠ .free := by
  simp [Plant.inUse, allSlots]

theorem Plant.mem_scanned {p : Plant} {snd : Sender} {i : SlotIx} (h : i ∈ p.scanned snd) :
    (p.allot i).state ≠ .free := by
  cases snd with
  | supervisor => exact Plant.mem_inUse.mp h
  | client c => exact (Plant.mem_ownedBy.mp h).1

theorem claim_effect (s : State) (h : s.inReset = false) (snd : Sender) (p : List Byte) :
    s.Effect (claim snd p s).1 := by
  unfold claim
  split
  next => exact .refl s
  next c =>
    refine .guard fun hrun => ?_
    split
    next => exact .refl s
    next hact =>
      refine .guard fun hl => .guard fun hf => ?_
      split
      next => exact .refl s
      next hch =>
        refine .guard fun hc => .guard fun hq => ?_
        split
        next => exact .refl s
        next i hi =>
          have hactive : (s.plant.client c).state = .active := by
            simp only [State.notActive] at hact
            split at hact <;> simp_all
          have hpass : s.claimPasses c p i :=
            ⟨h, by simpa using hrun, hactive, by simpa using hl, by simpa using hf, hch, Nat.not_lt.mp hc,
              Nat.not_lt.mp hq, hi⟩
          exact .claim c p i hpass (Plant.passIf_acts _ _ _ _) rfl ⟨rfl, rfl, rfl, rfl, rfl⟩

theorem query_effect (s : State) (snd : Sender) (p : List Byte) : s.Effect (query snd p s).1 := by
  unfold query
  split
  next => exact .refl s
  next =>
    refine .guard fun _ => ?_
    split
    next => exact .refl s
    next i hi =>
      refine .ofPlant ?_
      split
      next => exact .single (.unflag i (State.handleTest_present hi))
      next => exact .refl

theorem reshape_effect (s : State) (snd : Sender) (p : List Byte) : s.Effect (reshape snd p s).1 := by
  unfold reshape
  split
  next => exact .refl s
  next c =>
    refine .guard fun _ => ?_
    split
    next => exact .refl s
    next =>
      refine .guard fun _ => ?_
      split
      next => exact .refl s
      next i hi =>
        refine .guard fun hl => .guard fun hd => .guard fun hs => .guard fun _ => .guard fun _ => ?_
        split
        next => exact .refl s
        next hn =>
          refine .ofPlant (.single (.reshape i _ (by simpa using hl) ?_ (not_not.mp hs) fun hrun hraise => ?_))
          · exact fun d hd' h0 => hd (List.any_eq_true.mpr ⟨d, hd', by simp [h0]⟩)
          · exact Nat.not_lt.mp fun hlt => hn ⟨hrun, hraise, hlt⟩

theorem release_effect (s : State) (snd : Sender) (p : List Byte) : s.Effect (release snd p s).1 := by
  unfold release
  split
  next => exact .refl s
  next =>
    refine .guard fun _ => ?_
    split
    next => exact .refl s
    next i _ => exact .ofPlant (Plant.releaseAccepted_acts _ _ _ _)

theorem retry_effect (s : State) (snd : Sender) (p : List Byte) : s.Effect (retry snd p s).1 := by
  unfold retry
  refine .guard fun _ => ?_
  split
  next => exact .refl s
  next =>
    refine .guard fun _ => ?_
    split
    next => exact .refl s
    next i _ =>
      refine .guard fun hs => ?_
      obtain ⟨q, hq, ha, he⟩ := s.clearLatches_acts (s.plant.allot i).terms s.lim.effective
      have hqi : q.allot i = s.plant.allot i := by simp only [Plant.allot, he]
      simp only [hq]
      split
      next => exact .ofPlant ha
      next hf =>
        refine .ofPlant (ha.trans (.head (.retry (originOf snd i) i (by rw [hqi]; simpa using hs) ?_)
          (Plant.passIf_acts _ _ _ _)))
        rw [hqi]
        intro t ht
        have hnf := List.find?_eq_none.mp (Option.map_eq_none_iff.mp hf) t ht
        exact fun hfault => hnf (decide_eq_true hfault)

theorem scan_effect (s : State) (snd : Sender) (p : List Byte) : s.Effect (scan snd p s).1 := by
  unfold scan
  split
  next => exact .refl s
  next =>
    refine .guard fun _ => .ofPlant ?_
    split
    next => exact clearChanged_foldl_acts _ _ _ fun i => Plant.mem_scanned
    next => exact .refl

theorem setClasses_effect (s : State) (snd : Sender) (p : List Byte) : s.Effect (setClasses snd p s).1 := by
  unfold setClasses
  refine .guard fun _ => .guard fun _ => .guard fun _ => .ofPlant ?_
  unfold Plant.setLevels
  split
  next => exact .refl
  next => exact .head (.levels (levelsOf p)) (Plant.passIf_acts _ _ _ _)

theorem join_effect (s : State) (snd : Sender) (p : List Byte) : s.Effect (join snd p s).1 := by
  unfold join
  split
  next => exact .refl s
  next c =>
    refine .guard fun _ => .ofPlant (.tail (b := s.plant.joined s.lim.effective c) ?_ (.client c _ rfl))
    unfold Plant.joined
    split
    next => exact Plant.clientRelease_acts _ _ _ _ _
    next => exact .single (.client c _ rfl)

theorem leave_effect (s : State) (snd : Sender) (p : List Byte) : s.Effect (leave snd p s).1 := by
  unfold leave
  split
  next => exact .refl s
  next c =>
    split
    next => exact .refl s
    next =>
      exact .guard fun _ => .ofPlant (.tail (Plant.clientRelease_acts _ _ _ _ _) (.client c _ rfl))

theorem ping_effect (s : State) (snd : Sender) (p : List Byte) : s.Effect (ping snd p s).1 := by
  unfold ping
  split
  next => exact .refl s
  next =>
    refine .guard fun _ => ?_
    cases snd with
    | supervisor => exact .refl s
    | client c => exact .ofPlant (.single (.client c _ rfl))

/-- A SET_CLIENT keeps the claimed total, or is taken in SETUP only and leaves it 0 (R132, R133). -/
theorem Client.claimed_configure {s : State} {c : ClientIx} {id : Byte} {quota : Nat}
    (ht : s.setClientTest c id quota = none) (q w : Nat) (al : Bool) :
    ((s.plant.client c).configure id q w al).claimed = (s.plant.client c).claimed
      ∨ (s.ctl.part = .setup ∧ ((s.plant.client c).configure id q w al).claimed = 0) := by
  have hsetup : setClientForm (s.plant.client c) id ≠ .change → s.ctl.part = .setup := by
    intro hform
    by_contra hpart
    simp [State.setClientTest, hform, hpart] at ht
  unfold Client.configure
  split
  next hform => exact .inr ⟨hsetup (by simp [hform]), rfl⟩
  next => exact .inl rfl
  next => exact .inl rfl
  next hform =>
    split
    next => exact .inl rfl
    next => exact .inr ⟨hsetup (by simp [hform]), rfl⟩

theorem setClient_effect (s : State) (snd : Sender) (p : List Byte) : s.Effect (setClient snd p s).1 := by
  unfold setClient
  refine .guard fun _ => .guard fun _ => .guard fun _ => ?_
  simp only
  split
  next => exact .refl s
  next ht =>
    rcases Client.claimed_configure ht (wordAt p 2) (byteAt p 4) (byteAt p 5 == 1) with hcl | ⟨hpart, hcl⟩
    · exact .acts (.single (.client _ _ hcl)) rfl ⟨rfl, rfl, rfl, rfl, rfl⟩
    · exact .configured _ _ hcl hpart rfl rfl ⟨rfl, rfl, rfl, rfl, rfl⟩

theorem setChannel_effect (s : State) (snd : Sender) (p : List Byte) : s.Effect (setChannel snd p s).1 := by
  unfold setChannel
  refine .guard fun _ => .guard fun h2 => .guard fun _ => .guard fun _ => ?_
  exact .channel _ _ _ _ _ (by simpa using h2) rfl rfl ⟨rfl, rfl, rfl, rfl, rfl⟩

theorem setTiming_effect (s : State) (snd : Sender) (p : List Byte) : s.Effect (setTiming snd p s).1 := by
  unfold setTiming
  refine .guard fun _ => .guard fun _ => .guard fun _ => ?_
  split
  next => exact .ofPlant (.single (.output _ (.timing .refl _)))
  all_goals exact .refl s

theorem clearFault_effect (s : State) (snd : Sender) (p : List Byte) : s.Effect (clearFault snd p s).1 := by
  unfold clearFault
  refine .guard fun _ => .guard fun _ => ?_
  split
  next => exact .refl s
  next n _ =>
    refine .guard fun _ => ?_
    obtain ⟨q, hq, ha, -⟩ := s.clearLatch_acts n s.lim.effective
    simp only [hq]
    exact .ofPlant ha

/-- A change of the limit unit with its recomputation. -/
theorem State.Effect.ofRelimit {s s' : State} (hr : s.inReset = false) (h : s.Relimits s') :
    s.Effect s'.recompute := by
  refine .relimit s' hr h rfl rfl ?_
  rw [s'.recompute_frame]
  exact ⟨rfl, rfl, rfl, rfl, rfl⟩

theorem setLimits_effect (s : State) (h : s.inReset = false) (snd : Sender) (p : List Byte) :
    s.Effect (setLimits snd p s).1 := by
  unfold setLimits
  exact .guard fun _ => .guard fun _ => .guard fun _ => .ofRelimit h (.store _ _ _)

theorem commit_effect (s : State) (h : s.inReset = false) (snd : Sender) (p : List Byte) :
    s.Effect (commit snd p s).1 := by
  unfold commit
  exact .guard fun _ => .guard fun h2 => .guard fun _ => .ofRelimit h (.commit (by simpa using h2))

theorem halt_effect (s : State) (snd : Sender) (p : List Byte) : s.Effect (halt snd p s).1 := by
  unfold halt
  exact .guard fun _ => .guard fun _ => .guard fun _ => .halt rfl rfl ⟨rfl, rfl, rfl, rfl, rfl⟩

theorem restart_effect (s : State) (snd : Sender) (p : List Byte) : s.Effect (restart snd p s).1 := by
  unfold restart
  exact .guard fun _ => .guard fun _ => .acts .refl rfl ⟨rfl, rfl, rfl, rfl, rfl⟩

theorem blockOf_effect (s : State) (h : s.inReset = false) (r : Request) (snd : Sender) (p : List Byte) :
    s.Effect (blockOf r snd p s).1 := by
  cases r with
  | claim => exact claim_effect s h snd p
  | query => exact query_effect s snd p
  | reshape => exact reshape_effect s snd p
  | release => exact release_effect s snd p
  | retry => exact retry_effect s snd p
  | scan => exact scan_effect s snd p
  | join => exact join_effect s snd p
  | leave => exact leave_effect s snd p
  | ping => exact ping_effect s snd p
  | setClient => exact setClient_effect s snd p
  | setChannel => exact setChannel_effect s snd p
  | setTiming => exact setTiming_effect s snd p
  | clearFault => exact clearFault_effect s snd p
  | setLimits => exact setLimits_effect s h snd p
  | setClasses => exact setClasses_effect s snd p
  | commit => exact commit_effect s h snd p
  | halt => exact halt_effect s snd p
  | restart => exact restart_effect s snd p

/-! ### The events -/

/-- A request's row, whoever sends it (R158). -/
theorem request_effect (s : State) (r : Request) (snd : Sender) (p : List Byte) {t : State}
    (h : s.request r snd p (blockOf r) = .next t) : s.Effect t := by
  by_cases hr : s.inReset = true
  · rw [State.request, State.taking_held hr] at h; cases h; exact .refl s
  have hr' : s.inReset = false := by simpa using hr
  rw [State.request, State.taking_run hr'] at h
  cases h
  split
  next => exact (State.Effect.refl s).congr rfl rfl rfl rfl
  next => exact (blockOf_effect s hr' r snd p).congr rfl rfl rfl rfl

/-- An event taken outside reset. -/
theorem State.Effect.ofTaking {s t : State} {f : State → State} (h : s.taking f = .next t)
    (hf : s.inReset = false → s.Effect (f s)) : s.Effect t := by
  by_cases hr : s.inReset = true
  · rw [State.taking_held hr] at h; cases h; exact .refl s
  · have hr' : s.inReset = false := by simpa using hr
    rw [State.taking_run hr'] at h; cases h; exact hf hr'

theorem State.Effect.ofPort (s : State) (t : Port) : s.Effect (s.setPort t) := .acts .refl rfl ⟨rfl, rfl, rfl, rfl, rfl⟩

theorem State.supplyOk_of_run {s : State} (h : s.inReset = false) : s.pins.supplyOk = true := by
  simp only [State.inReset, Bool.or_eq_false_iff, Bool.not_eq_false'] at h; exact h.1.1

theorem State.Effect.ofEndReset {s : State} (c : ResetCause) (h : s.inReset = false) : s.Effect (s.endReset c) :=
  .reset rfl rfl rfl (.inl (State.supplyOk_of_run (s := s) h))

theorem State.Effect.orRestart {s s' : State} (h : s.inReset = false) (hs : s.Effect s') :
    s.Effect (s.orRestart s') := by
  unfold State.orRestart
  split
  next => exact .ofEndReset _ h
  next => exact hs

theorem Plant.restartWindow_acts (p : Plant) (snd : Sender) (eff : Nat) : Plant.Acts eff p (p.restartWindow snd) := by
  unfold Plant.restartWindow
  split
  next => exact .refl
  next c =>
    split
    next => exact .single (.client c _ rfl)
    next => exact .refl

theorem State.beginBareRead_effect {s r : State} (h : r.Effect s) : r.Effect s.beginBareRead := by
  unfold State.beginBareRead
  simp only
  split <;> exact h.congr rfl rfl rfl rfl

theorem State.endWritePhase_effect (s : State) (e : PhaseEnd) : s.Effect (s.endWritePhase e) := by
  have hx : Plant.Acts s.lim.effective s.plant (s.examine s.port.buffer s.port.overLength).1 := by
    unfold State.examine
    simp only
    split
    next => exact .refl
    next =>
      split
      next => exact .refl
      next snd _ => exact Plant.restartWindow_acts _ snd _
  unfold State.endWritePhase
  simp only
  split <;> exact (State.Effect.ofPlant hx).congr rfl rfl rfl rfl

theorem State.endReadPhase_effect {s : State} (h : s.inReset = false) (e : PhaseEnd) : s.Effect (s.endReadPhase e) := by
  refine .orRestart h ?_
  have hidle := State.Effect.ofPort s s.port.toIdle
  cases e with
  | restartRead => exact State.beginBareRead_effect hidle
  | restartWrite => exact hidle.congr rfl rfl rfl rfl
  | restartOther => exact hidle.congr rfl rfl rfl rfl
  | stop => exact hidle

theorem State.takeReplyInHand_effect {s : State} (h : s.inReset = false) (reply : List Byte) :
    s.Effect (s.takeReplyInHand reply) := by
  unfold State.takeReplyInHand
  simp only
  split
  next => exact .ofPort s _
  next =>
    split
    next => exact .ofEndReset _ h
    next => split <;> exact .ofPort s _

theorem execDeratenFalls_effect {s t : State} (h : execDeratenFalls s = .next t) : s.Effect t := by
  unfold execDeratenFalls at h
  split at h
  next => cases h; exact .refl s
  next =>
    by_cases hr : (s.setDerateLow true).inReset = true
    · rw [State.taking_held hr] at h; cases h; exact .held rfl rfl rfl hr rfl
    have hr' : (s.setDerateLow true).inReset = false := by simpa using hr
    rw [State.taking_run hr'] at h
    cases h
    unfold State.derateFalls
    split
    next hd => exact .ofRelimit hr' (.falls hd)
    next hd => exact .rederate _ hr' (.fallsHolding hd) rfl rfl (.refl _)
    next hd => exact .rederate _ hr' (.fallsDerated hd) rfl rfl (.refl _)

theorem execDeratenRises_effect {s t : State} (h : execDeratenRises s = .next t) : s.Effect t := by
  unfold execDeratenRises at h
  split at h
  next =>
    by_cases hr : (s.setDerateLow false).inReset = true
    · rw [State.taking_held hr] at h; cases h; exact .held rfl rfl rfl hr rfl
    have hr' : (s.setDerateLow false).inReset = false := by simpa using hr
    rw [State.taking_run hr'] at h
    cases h
    unfold State.derateRises
    split
    next hd =>
      split
      next => exact .ofRelimit hr' (.rises hd)
      next => exact .rederate _ hr' (State.Rederates.risesDerated (s := s) hd _) rfl rfl (.refl _)
    next hd => exact .rederate _ hr' (.risesOther (by rw [show s.lim.derate = .normal from hd]; decide)) rfl rfl (.refl _)
    next hd => exact .rederate _ hr' (.risesOther (by rw [show s.lim.derate = .holding from hd]; decide)) rfl rfl (.refl _)
  next => cases h; exact .refl s

theorem execFaultInputActive_effect {s t : State} {n : ChannelIx} (h : execFaultInputActive n s = .next t) :
    s.Effect t := by
  unfold execFaultInputActive at h
  split at h
  next => cases h; exact .refl s
  next =>
    have hs : s.Effect (s.setFaultLow n true) := .acts .refl rfl ⟨rfl, rfl, rfl, rfl, rfl⟩
    by_cases hr : (s.setFaultLow n true).inReset = true
    · rw [State.taking_held hr] at h; cases h; exact hs
    have hr' : (s.setFaultLow n true).inReset = false := by simpa using hr
    rw [State.taking_run hr'] at h
    cases h
    split
    next => exact .acts (Plant.faultActive_acts _ _ _) rfl ⟨rfl, rfl, rfl, rfl, rfl⟩
    next => exact hs

theorem execResetnRises_effect {s t : State} (h : execResetnRises s = .next t) : s.Effect t := by
  unfold execResetnRises at h
  split at h
  next => cases h; exact .refl s
  next =>
    simp only at h
    split at h
    next hr => cases h; exact .held rfl rfl rfl hr rfl
    next hr => cases h; exact .reset rfl rfl rfl (.inl (State.supplyOk_of_run (Bool.not_eq_true _ ▸ hr) :))

/-- What each command does, but for the exchange port and what is returned. -/
theorem exec_effect {c : Instr} {s t : State} (h : exec c s = .next t) : s.Effect t := by
  cases hreq : requestOf c with
  | some x =>
    obtain ⟨r, snd, p⟩ := x
    exact request_effect s r snd p ((exec_request hreq s).symm.trans h)
  | none =>
    cases c with
    | restartReset =>
      refine .ofTaking h fun hr => ?_
      split
      next => exact .ofEndReset _ hr
      next => exact .refl s
    | startOwnWrite =>
      refine .ofTaking h fun _ => ?_
      split
      next => exact .ofPort s _
      next => exact .refl s
    | writeByte b =>
      refine .ofTaking h fun _ => ?_
      split
      next => exact .ofPort s _
      next => exact .refl s
    | writePhaseEnd e =>
      refine .ofTaking h fun _ => ?_
      split
      next => exact s.endWritePhase_effect e
      next => exact .refl s
    | replyInHand =>
      change execReplyInHand s = .next t at h
      unfold execReplyInHand at h
      refine .ofTaking h fun hr => ?_
      split
      next => exact .refl s
      next reply _ => exact State.takeReplyInHand_effect hr reply
    | bareRead =>
      change execBareRead s = .next t at h
      unfold execBareRead at h
      refine .ofTaking h fun hr => ?_
      split
      next => exact State.beginBareRead_effect (.refl s)
      next =>
        split
        next => exact State.endReadPhase_effect hr _
        next => exact .refl s
    | readByteAck a =>
      refine .ofTaking h fun _ => ?_
      split
      next => exact .ofPort s _
      next => exact .refl s
    | readPhaseEnd e =>
      refine .ofTaking h fun hr => ?_
      split
      next => exact State.endReadPhase_effect hr e
      next => exact .refl s
    | busError =>
      refine .ofTaking h fun hr => ?_
      split
      next => exact .orRestart hr (.ofPort s _)
      next => exact .refl s
    | exchangeTimerExpiry =>
      refine .ofTaking h fun hr => ?_
      split
      next => exact .orRestart hr (.ofPort s _)
      next => exact .refl s
    | deratenFalls => exact execDeratenFalls_effect h
    | deratenRises => exact execDeratenRises_effect h
    | holdExpiry =>
      refine .ofTaking h fun hr => ?_
      split
      next hd => exact .ofRelimit hr (.expires hd)
      next => exact .refl s
    | faultInputActive n => exact execFaultInputActive_effect h
    | faultInputInactive n => cases h; exact .acts .refl rfl ⟨rfl, rfl, rfl, rfl, rfl⟩
    | resetnFalls =>
      change execResetnFalls s = .next t at h
      unfold execResetnFalls at h
      split at h
      next => cases h; exact .reset rfl rfl rfl (.inr (.inr ⟨rfl, rfl⟩))
      next => cases h; exact .refl s
    | resetnRises => exact execResetnRises_effect h
    | supplyValid => cases h; exact .supply rfl rfl rfl rfl
    | supplyFailure =>
      change execSupplyFailure s = .next t at h
      unfold execSupplyFailure at h
      split at h
      next => cases h; exact .reset rfl rfl rfl (.inr (.inl rfl))
      next => cases h; exact .refl s
    | startupEnd =>
      change execStartupEnd s = .next t at h
      unfold execStartupEnd at h
      split at h
      next hc =>
        cases h
        exact .reset rfl rfl rfl (.inl (by simp only [Bool.and_eq_true] at hc; exact hc.1.1))
      next => cases h; exact .refl s
    | frameStart =>
      change execFrameStart s = .next t at h
      unfold execFrameStart at h
      exact .ofTaking h fun _ => .ofPlant (.single (.output _ (.frame .refl)))
    | stepFrameStart =>
      change execStepFrameStart s = .next t at h
      unfold execStepFrameStart at h
      exact .ofTaking h fun _ => .ofPlant (.single (.output _ (OutputStage.toStepFrame_runs _ _ _ .refl)))
    | settledReport n =>
      change execSettledReport n s = .next t at h
      unfold execSettledReport at h
      refine .ofTaking h fun _ => ?_
      split
      next => exact .refl s
      next r hr => exact .ofPlant (Plant.takeReport_acts _ hr)
    | runTimerTenth i =>
      change execRunTimerTenth i s = .next t at h
      unfold execRunTimerTenth at h
      exact .ofTaking h fun _ => .ofPlant (Plant.runTenth_acts _ _ _)
    | runLimitExpiry i =>
      refine .ofTaking h fun _ => ?_
      split
      next hs =>
        simp only [Bool.and_eq_true] at hs
        exact .ofPlant (Plant.expireRun_acts _ hs.2)
      next => exact .refl s
    | windowExpiry c =>
      refine .ofTaking h fun _ => ?_
      split
      next => exact .ofPlant (.tail (Plant.clientRelease_acts _ _ _ _ _) (.client c _ rfl))
      next => exact .refl s
    | frameCountAdvance =>
      change execFrameCountAdvance s = .next t at h
      unfold execFrameCountAdvance at h
      exact .ofTaking h fun _ => .ofPlant (.single (.output _ (OutputStage.advance_runs _)))
    | _ => cases hreq

/-- What a step does: it idles, or carries out the front command with the queue's rest. -/
theorem step_effect {s t : State} (h : step s = .next t) : t = s ∨ ∃ rest, ({ s with pending := rest } : State).Effect t := by
  unfold step at h
  split at h
  next => cases h; exact .inl rfl
  next c rest _ => exact .inr ⟨rest, exec_effect h⟩

end Sys2Proof.Machine
end

section
/-! The ledger of the engine: charges, bindings and claimed totals. Every act writes one record in place, frees one slot,
changes the request cost of one record, or leaves records, bindings and totals alone; the three invariants follow from
these moves. -/

namespace Sys2Proof.Machine

/-! ### The moves -/

/-- What an act can do to the records, the bindings, the committed charge and the claimed totals. -/
inductive Plant.Move (p q : Plant) : Prop
  /-- None of them moves. -/
  | frame (ha : ∀ j, q.allot j = p.allot j) (hb : q.eng.binding = p.eng.binding)
      (hc : q.eng.committed = p.eng.committed) (hcl : ∀ c, (q.client c).claimed = (p.client c).claimed)
  /-- One record is rewritten with its generation, owner, channels and request cost, and the committed charge follows its
  charge where that moves (R35). -/
  | edit (i : SlotIx) (a : Allotment) (ha : ∀ j, q.allot j = if j = i then a else p.allot j)
      (hg : a.generation = (p.allot i).generation) (ho : a.owner = (p.allot i).owner)
      (ht : a.terms.map Term.channel = (p.allot i).terms.map Term.channel)
      (hr : a.requestCost = (p.allot i).requestCost) (hs : a.state ≠ .free) (hb : q.eng.binding = p.eng.binding)
      (hc : q.eng.committed = p.eng.committed - (p.allot i).charge + a.charge
        ∨ (a.charge = (p.allot i).charge ∧ q.eng.committed = p.eng.committed))
      (hcl : ∀ c, (q.client c).claimed = (p.client c).claimed)
  /-- One slot is freed (R2, R136). -/
  | free (i : SlotIx) (ha : ∀ j, q.allot j = if j = i then (p.allot i).freed else p.allot j)
      (hb : ∀ n : ChannelIx,
        q.eng.binding[n] = if n ∈ (p.allot i).terms.map Term.channel then none else p.eng.binding[n])
      (hc : q.eng.committed = p.eng.committed - (p.allot i).charge)
      (hcl : ∀ c, (q.client c).claimed =
        if (p.allot i).owner = some c then (p.client c).claimed - (p.allot i).requestCost else (p.client c).claimed)
  /-- One record takes new costs, and its owner's claimed total follows (R81, R136). -/
  | recost (i : SlotIx) (a : Allotment) (ha : ∀ j, q.allot j = if j = i then a else p.allot j)
      (hg : a.generation = (p.allot i).generation) (ho : a.owner = (p.allot i).owner)
      (ht : a.terms.map Term.channel = (p.allot i).terms.map Term.channel) (hch : a.charge = (p.allot i).charge)
      (hp : (p.allot i).state ≠ .free) (hs : a.state ≠ .free) (hb : q.eng.binding = p.eng.binding)
      (hc : q.eng.committed = p.eng.committed)
      (hcl : ∀ c, (q.client c).claimed = if a.owner = some c then
        (p.client c).claimed + a.requestCost - (p.allot i).requestCost else (p.client c).claimed)
  /-- A FREE slot takes a new record, its channels are bound, and its owner's claimed total rises (R19). -/
  | create (i : SlotIx) (a : Allotment) (ha : ∀ j, q.allot j = if j = i then a else p.allot j)
      (hp : (p.allot i).state = .free) (hg : a.generation = (p.allot i).generation) (hch : a.charge = 0)
      (hs : a.state ≠ .free) (hn : ∀ n ∈ a.terms.map Term.channel, p.eng.binding[n] = none)
      (hb : ∀ n : ChannelIx, q.eng.binding[n] =
        if n ∈ a.terms.map Term.channel then some (p.handleOf i) else p.eng.binding[n])
      (hc : q.eng.committed = p.eng.committed - (p.allot i).charge)
      (hcl : ∀ c, (q.client c).claimed =
        if a.owner = some c then (p.client c).claimed + a.requestCost else (p.client c).claimed)
  /-- Every slot is FREE, and the committed charge is written 0 (R170). -/
  | empty (ha : ∀ j, q.allot j = p.allot j) (hb : q.eng.binding = p.eng.binding)
      (hf : ∀ j, (p.allot j).state = .free) (hc : q.eng.committed = 0)
      (hcl : ∀ c, (q.client c).claimed = (p.client c).claimed)

/-- A chain of moves. -/
abbrev Plant.Moves : Plant → Plant → Prop := Relation.ReflTransGen Plant.Move

/-! ### Sums over the slots -/

/-- A sum over the slots moves with the one term that moves. -/
theorem sum_allSlots_update {f g : SlotIx → Nat} {i : SlotIx} (h : ∀ j, j ≠ i → f j = g j) :
    (allSlots.map f).sum + g i = (allSlots.map g).sum + f i := by
  have hrest : ∑ j ∈ Finset.univ.erase i, f j = ∑ j ∈ Finset.univ.erase i, g j :=
    Finset.sum_congr rfl fun j hj => h j (Finset.ne_of_mem_erase hj)
  unfold allSlots
  rw [← Fin.sum_univ_def, ← Fin.sum_univ_def, ← Finset.add_sum_erase _ f (Finset.mem_univ i),
    ← Finset.add_sum_erase _ g (Finset.mem_univ i), hrest]
  ring

theorem le_sum_allSlots (f : SlotIx → Nat) (i : SlotIx) : f i ≤ (allSlots.map f).sum :=
  List.le_sum_of_mem (List.mem_map_of_mem (List.mem_finRange i))

/-- The charges sum to what they did, but for the one record that moved. -/
theorem Plant.chargeSum_update {p q : Plant} {i : SlotIx} {a : Allotment}
    (ha : ∀ j, q.allot j = if j = i then a else p.allot j) :
    q.chargeSum + (p.allot i).charge = p.chargeSum + a.charge := by
  have h := sum_allSlots_update (f := fun j => (q.allot j).charge) (g := fun j => (p.allot j).charge) (i := i)
    fun j hj => by simp only [ha, if_neg hj]
  simpa [Plant.chargeSum, ha] using h

theorem Plant.charge_le_sum (p : Plant) (i : SlotIx) : (p.allot i).charge ≤ p.chargeSum :=
  le_sum_allSlots (fun j => (p.allot j).charge) i

/-- What an allotment counts in the claimed total of client `c` (R136). -/
def Allotment.claimFor (a : Allotment) (c : ClientIx) : Nat :=
  if a.state ≠ .free ∧ a.owner = some c then a.requestCost else 0

theorem Plant.claimedBy_eq (p : Plant) (c : ClientIx) :
    p.claimedBy c = (allSlots.map fun i => (p.allot i).claimFor c).sum := by
  unfold Plant.claimedBy Plant.ownedBy
  induction allSlots with
  | nil => rfl
  | cons i l ih =>
    rw [List.filter_cons, List.map_cons, List.sum_cons, ← ih]
    by_cases h : (p.allot i).state ≠ .free ∧ (p.allot i).owner = some c
    · rw [if_pos (decide_eq_true h), Allotment.claimFor, if_pos h]; rfl
    · rw [if_neg (by simpa using h), Allotment.claimFor, if_neg h, Nat.zero_add]

theorem Plant.claimedBy_update {p q : Plant} {i : SlotIx} {a : Allotment}
    (ha : ∀ j, q.allot j = if j = i then a else p.allot j) (c : ClientIx) :
    q.claimedBy c + (p.allot i).claimFor c = p.claimedBy c + a.claimFor c := by
  have h := sum_allSlots_update (f := fun j => (q.allot j).claimFor c) (g := fun j => (p.allot j).claimFor c) (i := i)
    fun j hj => by simp only [ha, if_neg hj]
  simpa [Plant.claimedBy_eq, ha] using h

theorem Plant.claimFor_le (p : Plant) (i : SlotIx) (c : ClientIx) : (p.allot i).claimFor c ≤ p.claimedBy c := by
  rw [Plant.claimedBy_eq]; exact le_sum_allSlots (fun j => (p.allot j).claimFor c) i

/-! ### FREE records -/

theorem Allotment.freed_clear (a : Allotment) : a.freed = a.freed.asFree := rfl

/-- A clear FREE record holds nothing. -/
theorem Plant.freeRecordsClear.values {p : Plant} (h : p.freeRecordsClear) {i : SlotIx}
    (hi : (p.allot i).state = .free) :
    (p.allot i).terms = [] ∧ (p.allot i).floor = none ∧ (p.allot i).requestCost = 0 ∧ (p.allot i).charge = 0
      ∧ (p.allot i).changed = false ∧ (p.allot i).unsettled = [] := by
  rw [h i hi]; exact ⟨rfl, rfl, rfl, rfl, rfl, rfl⟩

theorem Plant.Move.freeRecordsClear {p q : Plant} (h : p.Move q) (hp : p.freeRecordsClear) : q.freeRecordsClear := by
  have update {i : SlotIx} {a : Allotment} (ha : ∀ j, q.allot j = if j = i then a else p.allot j)
      (hs : a.state = .free → a = a.asFree) : q.freeRecordsClear := by
    intro j hj
    rw [ha] at hj ⊢
    split
    next h => rw [if_pos h] at hj; exact hs hj
    next h => rw [if_neg h] at hj; exact hp j hj
  cases h with
  | frame ha => intro j hj; rw [ha] at hj ⊢; exact hp j hj
  | empty ha => intro j hj; rw [ha] at hj ⊢; exact hp j hj
  | edit i a ha _ _ _ _ hs => exact update ha fun h => absurd h hs
  | free i ha => exact update ha fun _ => Allotment.freed_clear _
  | recost i a ha _ _ _ _ _ hs => exact update ha fun h => absurd h hs
  | create i a ha _ _ _ hs => exact update ha fun h => absurd h hs

/-! ### The committed charge (R35) -/

theorem Plant.Move.accountsAgree {p q : Plant} (h : p.Move q) (hp : p.accountsAgree) : q.accountsAgree := by
  refine ⟨h.freeRecordsClear hp.1, ?_⟩
  have hsum := hp.2
  have update {i : SlotIx} {a : Allotment} (ha : ∀ j, q.allot j = if j = i then a else p.allot j)
      (hc : q.eng.committed = p.eng.committed - (p.allot i).charge + a.charge) :
      q.eng.committed = q.chargeSum := by
    have h1 := Plant.chargeSum_update ha
    have h2 := p.charge_le_sum i
    omega
  cases h with
  | frame ha _ hc => rw [hc, hsum]; simp only [Plant.chargeSum, ha]
  | edit i a ha _ _ _ _ _ _ hc =>
    rcases hc with hc | ⟨hch, hc⟩
    · exact update ha hc
    · have h1 := Plant.chargeSum_update ha
      omega
  | free i ha _ hc => exact update ha hc
  | recost i a ha _ _ _ hch _ _ _ hc =>
    have h1 := Plant.chargeSum_update ha
    omega
  | create i a ha _ _ hch _ _ _ hc => exact update ha (by rw [hc, hch]; rfl)
  | empty ha _ hf hc =>
    rw [hc, Plant.chargeSum, eq_comm]
    exact List.sum_eq_zero fun x hx => by
      obtain ⟨j, -, rfl⟩ := List.mem_map.mp hx
      rw [ha, (hp.1.values (hf j)).2.2.2.1]

/-! ### The binding map (R10) -/

/-- A rewritten record that keeps generation and channels keeps the binding map exact. -/
theorem Plant.bindingExact_edit {p q : Plant} (hf : p.freeRecordsClear) (hp : p.bindingExact) {i : SlotIx}
    {a : Allotment} (ha : ∀ j, q.allot j = if j = i then a else p.allot j)
    (hg : a.generation = (p.allot i).generation)
    (ht : a.terms.map Term.channel = (p.allot i).terms.map Term.channel) (hs : a.state ≠ .free)
    (hb : q.eng.binding = p.eng.binding) : q.bindingExact := by
  have hgen : ∀ j, (q.allot j).generation = (p.allot j).generation := by
    intro j; rw [ha]; split
    next h => rw [hg, h]
    next => rfl
  have hnames : ∀ j n, q.names j n ↔ p.names j n := by
    intro j n; unfold Plant.names; rw [ha]; split
    next h => rw [ht, h]
    next => rfl
  have hhandle : ∀ j, q.handleOf j = p.handleOf j := fun j => by simp [Plant.handleOf, hgen]
  refine ⟨fun j hj n hn => ?_, fun n h hh => ?_⟩
  · have hn' := (hnames j n).mp hn
    have hj' : (p.allot j).state ≠ .free := fun hfree => by
      simp [Plant.names, (hf.values hfree).1] at hn'
    rw [hb, hhandle]; exact hp.1 j hj' n hn'
  · rw [hb] at hh
    obtain ⟨⟨hcs, hcg⟩, hn⟩ := hp.2 n h hh
    refine ⟨⟨?_, by rw [hgen]; exact hcg⟩, (hnames _ _).mpr hn⟩
    rw [ha]; split
    next => exact hs
    next => exact hcs

theorem Plant.Move.bindingExact {p q : Plant} (h : p.Move q) (hf : p.freeRecordsClear) (hp : p.bindingExact) :
    q.bindingExact := by
  cases h with
  | frame ha hb =>
    simp only [Plant.bindingExact, Plant.names, Plant.handleOf, Plant.current, ha, hb]
    exact hp
  | empty ha hb =>
    simp only [Plant.bindingExact, Plant.names, Plant.handleOf, Plant.current, ha, hb]
    exact hp
  | edit i a ha hg _ ht _ hs hb => exact Plant.bindingExact_edit hf hp ha hg ht hs hb
  | recost i a ha hg _ ht _ _ hs hb => exact Plant.bindingExact_edit hf hp ha hg ht hs hb
  | free i ha hb =>
    have hne {j : SlotIx} {n : ChannelIx} (hj : j ≠ i) (hs : (p.allot j).state ≠ .free) (hn : p.names j n) :
        n ∉ (p.allot i).terms.map Term.channel := fun hi => by
      have hi' : (p.allot i).state ≠ .free := fun hfree => by simp [(hf.values hfree).1] at hi
      have hsame := (hp.1 j hs n hn).symm.trans (hp.1 i hi' n hi)
      exact hj (congrArg Handle.slot (Option.some.inj hsame))
    refine ⟨fun j hj n hn => ?_, fun n h hh => ?_⟩
    · have hji : j ≠ i := by
        rintro rfl
        rw [ha, if_pos rfl] at hj
        exact hj rfl
      rw [ha, if_neg hji] at hj
      have hn' : p.names j n := by unfold Plant.names at hn ⊢; rwa [ha, if_neg hji] at hn
      rw [hb, if_neg (hne hji hj hn'), hp.1 j hj n hn']
      simp [Plant.handleOf, ha, hji]
    · rw [hb] at hh
      split at hh
      next => cases hh
      next hni =>
        obtain ⟨hc, hn⟩ := hp.2 n h hh
        have hji : h.slot ≠ i := by rintro rfl; exact hni hn
        unfold Plant.current Plant.names
        rw [ha, if_neg hji]; exact ⟨hc, hn⟩
  | create i a ha hpf hg _ hs hnb hb =>
    refine ⟨fun j hj n hn => ?_, fun n h hh => ?_⟩
    · by_cases hji : j = i
      · subst hji
        unfold Plant.names at hn
        rw [ha, if_pos rfl] at hn
        rw [hb, if_pos hn]
        simp [Plant.handleOf, ha, hg]
      · rw [ha, if_neg hji] at hj
        have hn' : p.names j n := by unfold Plant.names at hn ⊢; rwa [ha, if_neg hji] at hn
        have hbound := hp.1 j hj n hn'
        have hni : n ∉ a.terms.map Term.channel := fun hi => by simp [hnb n hi] at hbound
        rw [hb, if_neg hni, hbound]
        simp [Plant.handleOf, ha, hji]
    · rw [hb] at hh
      split at hh
      next hi =>
        cases hh
        unfold Plant.current Plant.names
        simp only [Plant.handleOf, ha, if_true]
        exact ⟨⟨hs, hg⟩, hi⟩
      next =>
        obtain ⟨hc, hn⟩ := hp.2 n h hh
        have hji : h.slot ≠ i := by rintro rfl; exact hc.1 hpf
        unfold Plant.current Plant.names
        rw [ha, if_neg hji]; exact ⟨hc, hn⟩

/-! ### The claimed totals (R136) -/

theorem Plant.Move.claimedLaw {p q : Plant} (h : p.Move q) (hp : p.claimedLaw) : q.claimedLaw := by
  refine ⟨h.freeRecordsClear hp.1, fun c => ?_⟩
  have hc := hp.2 c
  cases h with
  | frame ha _ _ hcl => rw [hcl, hc]; simp only [Plant.claimedBy_eq, ha]
  | empty ha _ _ _ hcl => rw [hcl, hc]; simp only [Plant.claimedBy_eq, ha]
  | edit i a ha _ ho _ hr hs _ _ hcl =>
    have hsame : a.claimFor c = (p.allot i).claimFor c := by
      by_cases hfree : (p.allot i).state = .free
      · simp [Allotment.claimFor, hfree, hr, (hp.1.values hfree).2.2.1]
      · simp [Allotment.claimFor, hfree, hs, ho, hr]
    have hu := Plant.claimedBy_update ha c
    rw [hcl]; omega
  | free i ha _ _ hcl =>
    have hu := Plant.claimedBy_update ha c
    have hle := p.claimFor_le i c
    have hfreed : (p.allot i).freed.claimFor c = 0 := by simp [Allotment.claimFor, Allotment.freed, Allotment.reset]
    rw [hcl]
    by_cases hfree : (p.allot i).state = .free
    · have h0 : (p.allot i).claimFor c = 0 := by simp [Allotment.claimFor, hfree]
      rw [(hp.1.values hfree).2.2.1]
      split <;> omega
    · split
      next ho =>
        have h1 : (p.allot i).claimFor c = (p.allot i).requestCost := by simp [Allotment.claimFor, hfree, ho]
        omega
      next ho =>
        have h1 : (p.allot i).claimFor c = 0 := by simp [Allotment.claimFor, ho]
        omega
  | recost i a ha _ ho _ _ hpf hs _ _ hcl =>
    have hu := Plant.claimedBy_update ha c
    have hle := p.claimFor_le i c
    rw [hcl]
    by_cases hown : a.owner = some c
    · have h1 : a.claimFor c = a.requestCost := by simp [Allotment.claimFor, hs, hown]
      have h2 : (p.allot i).claimFor c = (p.allot i).requestCost := by simp [Allotment.claimFor, hpf, ← ho, hown]
      rw [if_pos hown]; omega
    · have h1 : a.claimFor c = 0 := by simp [Allotment.claimFor, hown]
      have h2 : (p.allot i).claimFor c = 0 := by simp [Allotment.claimFor, ← ho, hown]
      rw [if_neg hown]; omega
  | create i a ha hpf _ _ hs _ _ _ hcl =>
    have hu := Plant.claimedBy_update ha c
    have h2 : (p.allot i).claimFor c = 0 := by simp [Allotment.claimFor, hpf]
    rw [hcl]
    by_cases hown : a.owner = some c
    · have h1 : a.claimFor c = a.requestCost := by simp [Allotment.claimFor, hs, hown]
      rw [if_pos hown]; omega
    · have h1 : a.claimFor c = 0 := by simp [Allotment.claimFor, hown]
      rw [if_neg hown]; omega

/-! ### Chains of moves -/

theorem Plant.Moves.accountsAgree {p q : Plant} (h : p.Moves q) (hp : p.accountsAgree) : q.accountsAgree := by
  induction h with
  | refl => exact hp
  | tail _ hm ih => exact hm.accountsAgree ih

theorem Plant.Moves.bindingExact {p q : Plant} (h : p.Moves q) (hp : p.freeRecordsClear ∧ p.bindingExact) :
    q.freeRecordsClear ∧ q.bindingExact := by
  induction h with
  | refl => exact hp
  | tail _ hm ih => exact ⟨hm.freeRecordsClear ih.1, hm.bindingExact ih.1 ih.2⟩

theorem Plant.Moves.claimedLaw {p q : Plant} (h : p.Moves q) (hp : p.claimedLaw) : q.claimedLaw := by
  induction h with
  | refl => exact hp
  | tail _ hm ih => exact hm.claimedLaw ih

end Sys2Proof.Machine
end

section
/-! Every act is a chain of moves of the ledger, and so is every step but a reset and the configuration of a client. -/

namespace Sys2Proof.Machine

/-! ### The operations as moves -/

/-- An operation that leaves records, bindings, the committed charge and the claimed totals alone. -/
theorem Plant.Move.ofFrame {p q : Plant} (ha : q.eng.allots = p.eng.allots) (hb : q.eng.binding = p.eng.binding)
    (hc : q.eng.committed = p.eng.committed) (hcl : ∀ c, (q.client c).claimed = (p.client c).claimed) : p.Move q :=
  .frame (fun j => by simp only [Plant.allot, ha]) hb hc hcl

theorem Plant.leaveQueue_move (p : Plant) (i : SlotIx) : p.Move (p.leaveQueue i) := .ofFrame rfl rfl rfl fun _ => rfl
theorem Plant.leaveGrants_move (p : Plant) (i : SlotIx) : p.Move (p.leaveGrants i) := .ofFrame rfl rfl rfl fun _ => rfl
theorem Plant.joinGrants_move (p : Plant) (i : SlotIx) : p.Move (p.joinGrants i) := .ofFrame rfl rfl rfl fun _ => rfl
theorem Plant.queueBack_move (p : Plant) (i : SlotIx) : p.Move (p.queueBack i) := .ofFrame rfl rfl rfl fun _ => rfl
theorem Plant.queueFront_move (p : Plant) (i : SlotIx) : p.Move (p.queueFront i) := .ofFrame rfl rfl rfl fun _ => rfl
theorem Plant.setStage_move (p : Plant) (h : Option Handle) : p.Move (p.setStage h) := .ofFrame rfl rfl rfl fun _ => rfl
theorem Plant.latch_move (p : Plant) (n : ChannelIx) : p.Move (p.latch n) := .ofFrame rfl rfl rfl fun _ => rfl

theorem Plant.setClient_move {p : Plant} {c : ClientIx} {x : Client} (hx : x.claimed = (p.client c).claimed) :
    p.Move (p.setClient c x) := by
  refine .ofFrame rfl rfl rfl fun d => ?_
  rw [Plant.client_setClient]
  split
  next h => rw [hx, h]
  next => rfl

theorem Plant.retire_move (p : Plant) (i : SlotIx) : p.Move (p.retire i) := by
  unfold Plant.retire
  split
  next => exact .ofFrame rfl rfl rfl fun _ => rfl
  next c _ => exact Plant.setClient_move rfl

/-- A transition is a move of any slot: its record is in transition afterwards (R69, R70). -/
theorem Plant.startTransition_move (p : Plant) (i : SlotIx) (d : Term → Nat) (oc : Option FallOutcome) :
    p.Move (p.startTransition i d oc) :=
  .edit i _ (p.allot_startTransition i · d oc) rfl rfl
    (by simp [Plant.inTransition, Function.comp_def]) rfl (by simp [Plant.inTransition, Plant.transitionState_ne_free])
    rfl (.inl (p.startTransition_committed i d oc)) fun _ => rfl

/-- Rewriting a record in place, with what the ledger holds of it. -/
theorem Plant.setAllot_move {p : Plant} {i : SlotIx} {a : Allotment}
    (hg : a.generation = (p.allot i).generation) (ho : a.owner = (p.allot i).owner)
    (ht : a.terms.map Term.channel = (p.allot i).terms.map Term.channel)
    (hr : a.requestCost = (p.allot i).requestCost) (hc : a.charge = (p.allot i).charge) (hs : a.state ≠ .free) :
    p.Move (p.setAllot i a) :=
  .edit i a (p.allot_setAllot i · a) hg ho ht hr hs rfl (.inr ⟨hc, rfl⟩) fun _ => rfl

theorem Plant.setState_move (p : Plant) (i : SlotIx) {st : AllotState} (h : st ≠ .free) : p.Move (p.setState i st) :=
  Plant.setAllot_move rfl rfl rfl rfl rfl h

theorem Plant.markChanged_move {p : Plant} (o : Origin) {i : SlotIx} (h : (p.allot i).state ≠ .free) :
    p.Move (p.markChanged o i) := by
  rw [Plant.markChanged_eq]; exact Plant.setAllot_move rfl rfl rfl rfl rfl h

theorem Plant.setCharge_move {p : Plant} {i : SlotIx} (c : Nat) (h : (p.allot i).state ≠ .free) :
    p.Move (p.setCharge i c) :=
  .edit i _ (p.allot_setCharge i · c) rfl rfl rfl rfl h rfl (.inl rfl) fun _ => rfl

theorem Allotment.halted_channels (a : Allotment) : a.halted.terms.map Term.channel = a.terms.map Term.channel := by
  simp [Allotment.halted, Function.comp_def]

/-- A cut writes the record of its slot, without targets, charge and unsettled channels (R38). -/
theorem Plant.allot_cutAllotment (p : Plant) (i j : SlotIx) :
    (p.cutAllotment i).allot j = if j = i then { (p.allot i).halted with charge := 0 } else p.allot j := by
  change ((Plant.setAllot _ i (p.allot i).halted).setCharge i 0).allot j = _
  rw [Plant.allot_setCharge]
  by_cases h : j = i
  · simp [h]
  · simp only [if_neg h, Plant.allot_setAllot_ne _ _ h]; rfl

theorem Plant.cutAllotment_committed (p : Plant) (i : SlotIx) :
    (p.cutAllotment i).eng.committed = p.eng.committed - (p.allot i).charge := by
  change (Plant.setAllot _ i (p.allot i).halted).eng.committed
    - ((Plant.setAllot _ i (p.allot i).halted).allot i).charge + 0 = _
  rw [Plant.allot_setAllot_self]; rfl

theorem Plant.cutAllotment_move {p : Plant} {i : SlotIx} (h : (p.allot i).state ≠ .free) : p.Move (p.cutAllotment i) :=
  .edit i _ (p.allot_cutAllotment i) rfl rfl (Allotment.halted_channels _) rfl h rfl
    (.inl (p.cutAllotment_committed i)) fun _ => rfl

theorem Plant.claimed_adjustClaimed (p : Plant) (o : Option ClientIx) (add sub : Nat) (c : ClientIx) :
    ((p.adjustClaimed o add sub).client c).claimed =
      if o = some c then (p.client c).claimed + add - sub else (p.client c).claimed := by
  cases o with
  | none => rfl
  | some d =>
    simp only [Plant.adjustClaimed, Plant.client_setClient, Option.some.injEq]
    by_cases h : c = d
    · simp [h]
    · simp [h, Ne.symm h]

theorem Plant.freeSlot_move (p : Plant) (i : SlotIx) : p.Move (p.freeSlot i) :=
  .free i (p.allot_freeSlot i) (p.binding_freeSlot i) (p.freeSlot_frame i).1 fun c => by
    change ((Plant.adjustClaimed _ (p.allot i).owner 0 _).client c).claimed = _
    rw [Plant.claimed_adjustClaimed]; rfl

/-! ### The acts as moves -/

theorem Plant.PassAct.moves {eff : Nat} {o : Origin} {p q : Plant} (h : Plant.PassAct eff o p q) : p.Moves q := by
  have mark {r : Plant} {i : SlotIx} {d : Term → Nat} {oc : Option FallOutcome} :
      ((r.startTransition i d oc).allot i).state ≠ .free := by
    simp [Plant.allot_startTransition, Plant.inTransition, Plant.transitionState_ne_free]
  cases h with
  | topUp i =>
    exact ((Relation.ReflTransGen.single (p.leaveQueue_move i)).tail (Plant.startTransition_move _ i _ _)).tail
      (Plant.markChanged_move o mark)
  | grant i =>
    exact (((Relation.ReflTransGen.single (p.leaveQueue_move i)).tail (Plant.startTransition_move _ i _ _)).tail
      (Plant.joinGrants_move _ i)).tail (Plant.markChanged_move o mark)
  | reduce i => exact (Relation.ReflTransGen.single (p.startTransition_move i _ _)).tail (Plant.markChanged_move o mark)
  | shed i =>
    exact ((Relation.ReflTransGen.single (p.leaveQueue_move i)).tail (Plant.startTransition_move _ i _ _)).tail
      (Plant.markChanged_move o mark)
  | stage i hs _ =>
    exact .single (.edit i _ (p.allot_stageEntry o i) rfl rfl (Allotment.halted_channels _) rfl (by simp)
      (by simp [Plant.stageEntry]) (.inl (by simp [Plant.stageEntry])) fun c => by
        simp [Plant.client, Plant.stageEntry])

theorem Plant.releaseIdle_moves (p : Plant) (i : SlotIx) (retires : Bool) : p.Moves (p.releaseIdle i retires) := by
  cases retires with
  | false => exact .single (p.freeSlot_move i)
  | true => exact (Relation.ReflTransGen.single (p.retire_move i)).tail (Plant.freeSlot_move _ i)

theorem Plant.releaseDriven_moves (p : Plant) (o : Origin) (i : SlotIx) (retires : Bool) :
    p.Moves (p.releaseDriven o i retires) := by
  have hfall : p.Moves ((p.fallToFree i).markChanged o i) :=
    (Relation.ReflTransGen.single (p.startTransition_move i _ _)).tail (Plant.markChanged_move o (by
      simp [Plant.allot_startTransition, Plant.inTransition, Plant.transitionState_ne_free]))
  cases retires with
  | false => exact hfall
  | true => exact hfall.tail (Plant.retire_move _ i)

theorem Plant.releaseOne_moves (p : Plant) (o : Origin) (retires : Bool) (i : SlotIx) :
    p.Moves (p.releaseOne o retires i) := by
  unfold Plant.releaseOne
  split
  · exact .refl
  · exact .head (p.leaveQueue_move i) (Plant.releaseIdle_moves _ i retires)
  · exact .head (p.setStage_move none) (Plant.releaseIdle_moves _ i retires)
  · exact p.releaseIdle_moves i retires
  · exact p.releaseDriven_moves o i retires
  · exact p.releaseDriven_moves o i retires
  · exact .head (p.leaveQueue_move i) (Plant.releaseDriven_moves _ o i retires)
  · exact .refl
  all_goals exact p.releaseDriven_moves o i retires

theorem Plant.tripOne_moves (p : Plant) (i : SlotIx) : p.Moves (p.tripOne i) := by
  have tripped {q : Plant} (hq : p.Move q) : p.Moves ((q.setState i .tripped).markChanged .other i) :=
    ((Relation.ReflTransGen.single hq).tail (q.setState_move i (by simp))).tail
      (Plant.markChanged_move .other (by simp [Plant.allot_setState]))
  have cut (h : (p.allot i).state ≠ .free) : p.Move (p.cutAllotment i) := Plant.cutAllotment_move h
  unfold Plant.tripOne
  split
  case h_1 => exact .refl
  case h_2 => exact .refl
  case h_3 => exact tripped (p.leaveQueue_move i)
  case h_4 => exact tripped (p.setStage_move none)
  case h_5 hs =>
    have hn : (p.allot i).state ≠ .free := by simp [hs]
    exact ((Relation.ReflTransGen.single (cut hn)).tail
      (Plant.markChanged_move .other (by simpa [Plant.allot_cutAllotment, Allotment.halted] using hn))).tail
      (Plant.freeSlot_move _ i)
  all_goals exact tripped (cut (by simp [*]))

theorem Plant.endFall_moves {p : Plant} {i : SlotIx} (o : FallOutcome) (h : (p.allot i).state ≠ .free) :
    p.Moves (p.endFall i o) := by
  have settled (st : AllotState) (hst : st ≠ .free) (c : Nat) : p.Moves ((p.setState i st).setCharge i c) :=
    (Relation.ReflTransGen.single (p.setState_move i hst)).tail
      (Plant.setCharge_move c (by simpa [Plant.allot_setState] using hst))
  have mark {st : AllotState} (hst : st ≠ .free) (c : Nat) :
      (((p.setState i st).setCharge i c).allot i).state ≠ .free := by simpa [Plant.allot_setState] using hst
  cases o with
  | running => exact (settled .running (by simp) _).tail (Plant.markChanged_move _ (mark (by simp) _))
  | reduced =>
    exact ((settled .reduced (by simp) _).tail (Plant.queueBack_move _ i)).tail
      (Plant.markChanged_move _ (mark (st := .reduced) (by simp) _))
  | waiting =>
    exact (((settled .waiting (by simp) _).tail (Plant.leaveGrants_move _ i)).tail (Plant.queueFront_move _ i)).tail
      (Plant.markChanged_move _ (mark (st := .waiting) (by simp) _))
  | free =>
    exact ((Relation.ReflTransGen.single (p.leaveGrants_move i)).tail (Plant.markChanged_move _ h)).tail
      (Plant.freeSlot_move _ i)

theorem Plant.resolveSlot_moves (p : Plant) (eff : Nat) (i : SlotIx) : p.Moves (p.resolveSlot eff i) := by
  unfold Plant.resolveSlot
  simp only
  split
  · exact (((Relation.ReflTransGen.single (p.setStage_move none)).tail (Plant.startTransition_move _ i _ _)).tail
      (Plant.joinGrants_move _ i)).tail (Plant.markChanged_move _ (by
        simp [Plant.allot_startTransition, Plant.inTransition, Plant.transitionState_ne_free]))
  · exact (((Relation.ReflTransGen.single (p.setStage_move none)).tail (Plant.setState_move _ i (by simp))).tail
      (Plant.queueFront_move _ i)).tail (Plant.markChanged_move _ (by simp [Plant.allot_setState]))

/-- Storing new duties keeps the channels of the terms (R81). -/
theorem withDuties_channels {ts : List Term} {ds : List Nat} (h : ds.length = ts.length) :
    (withDuties ts ds).map Term.channel = ts.map Term.channel := by
  induction ts generalizing ds with
  | nil => simp [withDuties]
  | cons t ts ih =>
    cases ds with
    | nil => simp at h
    | cons d ds => simpa [withDuties] using ih (by simpa using h)

theorem Plant.allot_storeReshape (p : Plant) (i j : SlotIx) (ds : List Nat) :
    (p.storeReshape i ds).allot j = if j = i then p.reshaped (p.allot i) ds else p.allot j := by
  unfold Plant.storeReshape
  rw [← Plant.allot_setAllot]
  simp [Plant.allot]

theorem Plant.storeReshape_move {p : Plant} {i : SlotIx} {ds : List Nat} (hl : ds.length = (p.allot i).terms.length)
    (h : (p.allot i).state ≠ .free) : p.Move (p.storeReshape i ds) :=
  .recost i _ (p.allot_storeReshape i · ds) rfl rfl (withDuties_channels hl) rfl h h
    (by simp [Plant.storeReshape]) (by simp [Plant.storeReshape]) fun c => by
      unfold Plant.storeReshape
      rw [Plant.claimed_adjustClaimed]; rfl

theorem AllotState.ne_free_of_runs {st : AllotState} (h : st.runs = true) : st ≠ .free := by
  rintro rfl; cases h

theorem Plant.Act.moves {eff : Nat} {p q : Plant} (h : Plant.Act eff p q) : p.Moves q := by
  cases h with
  | pass h => exact h.moves
  | resolve h _ => exact p.resolveSlot_moves eff h.slot
  | unflag i hn => exact .single (Plant.setAllot_move rfl rfl rfl rfl rfl hn)
  | dropReport n => exact .single (.ofFrame rfl rfl rfl fun _ => rfl)
  | takeReport n r h hr hb ht =>
    have hn : (p.allot h.slot).state ≠ .free := fun hf => by
      simp [Allotment.takesReport, hf, AllotState.outcome?] at ht
    exact (Relation.ReflTransGen.single (b := p.withoutReport n) (.ofFrame rfl rfl rfl fun _ => rfl)).tail
      (Plant.setAllot_move rfl rfl rfl rfl rfl hn)
  | endRise i hs _ =>
    exact ((Relation.ReflTransGen.single (p.setState_move i (by simp))).tail
      (Plant.setCharge_move _ (by simp [Plant.allot_setState]))).tail
      (Plant.markChanged_move _ (by simp [Plant.allot_setState]))
  | endFall i o hs _ => exact Plant.endFall_moves o (by simp [hs])
  | release o retires i => exact p.releaseOne_moves o retires i
  | latch n => exact .single (p.latch_move n)
  | trip n h _ _ => exact .head (p.latch_move n) (Plant.tripOne_moves _ h.slot)
  | runTick i r hs => exact .single (Plant.setAllot_move rfl rfl rfl rfl rfl (AllotState.ne_free_of_runs hs))
  | expire i hs =>
    let p1 := p.setAllot i { p.allot i with
      run := (p.allot i).run.map fun r => { r with remaining := 0, counted := 0 } }
    let p2 := (p1.leaveQueue i).fallToFree i
    have h1 : p.Move p1 := Plant.setAllot_move rfl rfl rfl rfl rfl (AllotState.ne_free_of_runs hs)
    have h2 : (p1.leaveQueue i).Move p2 := Plant.startTransition_move _ i _ _
    have h3 : p2.Move (p2.markChanged .other i) := Plant.markChanged_move .other (by
      simp [p2, Plant.fallToFree, Plant.allot_startTransition, Plant.inTransition, Plant.transitionState_ne_free])
    exact ((((Relation.ReflTransGen.single h1).tail (p1.leaveQueue_move i)).tail h2).tail h3).tail
      (Plant.retire_move _ i)
  | reshape i ds hl _ hs _ =>
    have hn : (p.allot i).state ≠ .free := by rcases hs with h | h <;> simp [h]
    have hstore := Plant.storeReshape_move hl hn
    unfold Plant.reshapeAccepted
    simp only
    split
    · exact .single hstore
    split
    · exact .refl
    · exact (Relation.ReflTransGen.single hstore).tail (Plant.startTransition_move _ i _ _)
  | clearLatch n => exact .single (.ofFrame rfl rfl rfl fun _ => rfl)
  | retry o i hs _ =>
    let p1 := p.setAllot i { (p.allot i).halted with state := .waiting }
    have h1 : p.Move p1 := Plant.setAllot_move rfl rfl (Allotment.halted_channels _) rfl rfl (by simp)
    have h2 : p1.Move (p1.setCharge i 0) := Plant.setCharge_move 0 (by simp [p1])
    have h3 : ((p1.setCharge i 0).queueBack i).Move (p.requeued o i) := Plant.markChanged_move o (by simp [p1])
    exact (((Relation.ReflTransGen.single h1).tail h2).tail (Plant.queueBack_move _ i)).tail h3
  | client c x hx => exact .single (Plant.setClient_move hx)
  | levels l => exact .single (.ofFrame rfl rfl rfl fun _ => rfl)
  | output o _ => exact .single (.ofFrame rfl rfl rfl fun _ => rfl)

theorem Plant.Acts.moves {eff : Nat} {p q : Plant} (h : Plant.Acts eff p q) : p.Moves q := by
  induction h with
  | refl => exact .refl
  | tail _ ha ih => exact ih.trans ha.moves

/-! ### The steps that are no acts -/

/-- The hard cut of one allotment, whatever its state (R38). -/
theorem Plant.hardCutOne_moves (p : Plant) (i : SlotIx) : p.Moves (p.hardCutOne i) := by
  unfold Plant.hardCutOne
  simp only
  split
  next hs =>
    have hn : (p.allot i).state ≠ .free := by simp [hs]
    exact ((Relation.ReflTransGen.single (Plant.cutAllotment_move hn)).tail
      (Plant.markChanged_move .other (by simpa [Plant.allot_cutAllotment, Allotment.halted] using hn))).tail
      (Plant.freeSlot_move _ i)
  next =>
    have hw : p.Move ((((p.cutAllotment i).markChanged .other i).setState i .waiting)) :=
      .edit i { (p.allot i).halted with charge := 0, changed := true, state := .waiting }
        (fun j => by
          simp only [Plant.allot_setState, Plant.allot_markChanged, Plant.allot_cutAllotment, if_true]
          by_cases h : j = i <;> simp [h, Origin.spares])
        rfl rfl (Allotment.halted_channels _) rfl (by simp) rfl
        (.inl (by simpa using p.cutAllotment_committed i)) fun _ => rfl
    exact (Relation.ReflTransGen.single hw).tail (Plant.queueFront_move _ i)

theorem cutWalk_moves (eff : Nat) (l : List Handle) (p : Plant) : p.Moves (cutWalk eff l p) := by
  induction l generalizing p with
  | nil => exact .refl
  | cons h rest ih =>
    unfold cutWalk
    split
    · exact .refl
    · exact (p.hardCutOne_moves h.slot).trans (ih _)

theorem Plant.ceilingReport_moves (p : Plant) (old new : Nat) : p.Moves (p.ceilingReport old new) := by
  unfold Plant.ceilingReport
  split
  · exact (Plant.passIf_acts p new .other true).moves
  split
  · exact .refl
  · exact (cutWalk_moves new _ p).trans (Plant.settleStage_acts _ new true).moves

/-- The recomputation of the effective ceiling, with or without a report of it (R26). -/
theorem State.recompute_moves (s : State) : s.plant.Moves s.recompute.plant := by
  unfold State.recompute
  simp only
  split
  · exact .refl
  · exact Plant.ceilingReport_moves _ _ _

/-- The creation of a claimed allotment (R19). -/
theorem Plant.createAllotment_move {p : Plant} {c : ClientIx} {payload : List Byte} {i : SlotIx}
    (hfree : (p.allot i).state = .free)
    (hch : ∀ u ∈ claimTerms payload, p.claimable u.channel) : p.Moves (p.createAllotment c payload i) := by
  have hgen : ((p.setAllot i (p.claimRecord c payload (p.allot i))).setCharge i 0).handleOf i = p.handleOf i := by
    simp [Plant.handleOf, Plant.claimRecord]
  have hcreate : p.Move (((((p.setAllot i (p.claimRecord c payload (p.allot i))).setCharge i 0).bindTerms
      (claimTerms payload) (some (p.handleOf i))).adjustClaimed (some c)
        (p.requestCostOf (claimTerms payload)) 0)) :=
    .create i { p.claimRecord c payload (p.allot i) with charge := 0 }
      (fun j => by
        have hj := Plant.allot_setCharge (p.setAllot i (p.claimRecord c payload (p.allot i))) i j 0
        rw [Plant.allot_setAllot_self] at hj
        refine Eq.trans ?_ (hj.trans ?_)
        · simp only [Plant.allot, Plant.adjustClaimed_eng]; rfl
        · by_cases h : j = i
          · simp [h]
          · simp [h, Plant.allot_setAllot_ne _ _ h])
      hfree rfl rfl (by simp [Plant.claimRecord])
      (fun n hn => by
        obtain ⟨u, hu, rfl⟩ := List.mem_map.mp hn
        exact (hch u hu).2.2)
      (fun n => by
        rw [Plant.adjustClaimed_eng, Plant.binding_bindTerms]; rfl)
      (by
        rw [Plant.adjustClaimed_eng]
        change _ - ((p.setAllot i (p.claimRecord c payload (p.allot i))).allot i).charge + 0 = _
        rw [Plant.allot_setAllot_self]; rfl)
      fun d => by
        rw [Plant.claimed_adjustClaimed]; rfl
  unfold Plant.createAllotment
  simp only [hgen]
  exact (Relation.ReflTransGen.single hcreate).tail (Plant.queueBack_move _ i)

theorem Plant.lowestFree_free {p : Plant} {i : SlotIx} (h : p.lowestFree = some i) : (p.allot i).state = .free := by
  simpa using List.find?_some h

theorem State.claimPasses.moves {s : State} {c : ClientIx} {p : List Byte} {i : SlotIx} (h : s.claimPasses c p i) :
    s.plant.Moves (s.plant.createAllotment c p i) := by
  obtain ⟨-, -, -, -, -, hch, -, -, hi⟩ := h
  exact Plant.createAllotment_move (Plant.lowestFree_free hi) (Plant.claimChannelTest_none.mp hch)

/-- What HALT does before the collections are emptied: it frees every allotment (R170). -/
def Plant.haltFreed (p : Plant) : Plant := p.inUse.foldl Plant.haltOne p

theorem Plant.haltOne_moves (p : Plant) (i : SlotIx) : p.Moves (p.haltOne i) := by
  unfold Plant.haltOne
  split
  · exact .single (p.freeSlot_move i)
  · exact (Relation.ReflTransGen.single (p.retire_move i)).tail (Plant.freeSlot_move _ i)

theorem Plant.haltOne_free (p : Plant) (i j : SlotIx) (h : j = i ∨ (p.allot j).state = .free) :
    ((p.haltOne i).allot j).state = .free := by
  have hr : ∀ k, (p.retire i).allot k = p.allot k := fun k => by simp [Plant.allot]
  unfold Plant.haltOne
  split <;> rw [Plant.allot_freeSlot] <;> split
  · rfl
  · exact h.resolve_left ‹_›
  · rfl
  · rw [hr]; exact h.resolve_left ‹_›

theorem Plant.haltOnes_moves (l : List SlotIx) (p : Plant) :
    p.Moves (l.foldl Plant.haltOne p)
      ∧ ∀ j, j ∈ l ∨ (p.allot j).state = .free → ((l.foldl Plant.haltOne p).allot j).state = .free := by
  induction l generalizing p with
  | nil => exact ⟨.refl, fun j h => h.resolve_left (by simp)⟩
  | cons i l ih =>
    obtain ⟨hm, hf⟩ := ih (p.haltOne i)
    refine ⟨(p.haltOne_moves i).trans hm, fun j hj => hf j ?_⟩
    rcases hj with hj | hj
    · rcases List.mem_cons.mp hj with rfl | hj
      · exact .inr (p.haltOne_free j j (.inl rfl))
      · exact .inl hj
    · exact .inr (p.haltOne_free i j (.inr hj))

theorem Plant.haltFreed_moves (p : Plant) : p.Moves p.haltFreed := (Plant.haltOnes_moves _ p).1

/-- After a HALT every allotment is FREE (R170). -/
theorem Plant.haltFreed_free (p : Plant) (j : SlotIx) : (p.haltFreed.allot j).state = .free :=
  (Plant.haltOnes_moves _ p).2 j (by
    by_cases h : (p.allot j).state = .free
    · exact .inr h
    · exact .inl (Plant.mem_inUse.mpr h))

theorem Plant.halt_moves (p : Plant) : p.Moves p.halt :=
  p.haltFreed_moves.tail (.empty (fun _ => rfl) rfl p.haltFreed_free rfl fun _ => rfl)

/-! ### The steps -/

theorem State.Relimits.plant {s s' : State} (h : s.Relimits s') : s'.plant = s.plant := by
  cases h <;> rfl

/-- A step moves the ledger, resets the part, or writes the record of a client in SETUP. -/
theorem State.Effect.moves {s t : State} (h : s.Effect t) :
    s.plant.Moves t.plant ∨ t.plant = Plant.reset
      ∨ ∃ c x, x.claimed = 0 ∧ s.ctl.part = .setup ∧ t.plant = s.plant.setClient c x := by
  cases h with
  | acts h => exact .inl h.moves
  | claim c p i hp h => exact .inl (hp.moves.trans h.moves)
  | channel n _ _ _ _ _ h => exact .inl (h ▸ .single (.ofFrame rfl rfl rfl fun _ => rfl))
  | configured c x hx hs h => exact .inr (.inr ⟨c, x, hx, hs, h⟩)
  | relimit s' _ hr h => rw [h, ← hr.plant]; exact .inl s'.recompute_moves
  | rederate s' _ _ h => rw [h]; exact .inl .refl
  | halt h => rw [h]; exact .inl s.plant.halt_moves
  | reset h => exact .inr (.inl h)
  | held h => rw [h]; exact .inl .refl
  | supply h => rw [h]; exact .inl .refl

/-- A relation of the plant that the moves keep, that holds after a reset and that a client's record in SETUP does not
break is kept by every step. -/
theorem step_keeps_plant {P : Plant → Prop} (hmove : ∀ {p q : Plant}, p.Moves q → P p → P q) (hreset : P Plant.reset)
    {s t : State}
    (hclient : ∀ c x, x.claimed = 0 → s.ctl.part = .setup → P s.plant → P (s.plant.setClient c x))
    (hs : P s.plant) (h : step s = .next t) : P t.plant := by
  rcases step_effect h with rfl | ⟨rest, he⟩
  · exact hs
  rcases he.moves with hm | hr | ⟨c, x, hx, hpart, hp⟩
  · exact hmove hm hs
  · rw [hr]; exact hreset
  · rw [hp]; exact hclient c x hx hpart hs

end Sys2Proof.Machine

open Sys2Proof Sys2Proof.Machine in
/-- Settles O4: every move keeps the sum of the charges and the FREE records. -/
theorem committedStaysTheSumOfCharges : Obligations.CommittedStaysTheSumOfCharges := fun _ _ hs h =>
  step_keeps_plant (P := Plant.accountsAgree) Plant.Moves.accountsAgree Plant.accountsAgree_reset
    (fun _ _ _ _ h => h) hs h

open Sys2Proof Sys2Proof.Machine in
/-- Settles O5: every move keeps the binding map exact, since it keeps FREE records clear. -/
theorem bindingMapStaysExact : Obligations.BindingMapStaysExact := fun _ _ hs h =>
  step_keeps_plant (P := fun p => p.freeRecordsClear ∧ p.bindingExact) Plant.Moves.bindingExact
    ⟨Plant.freeRecordsClear_reset, Plant.bindingExact_reset⟩ (fun _ _ _ _ h => h) hs h

open Sys2Proof Sys2Proof.Machine in
/-- Settles O8: every move keeps the claimed totals; a client's record is written 0 in SETUP only, where every allotment is
FREE. -/
theorem claimedTotalsStaySums : Obligations.ClaimedTotalsStaySums := fun s _ ho hs h =>
  step_keeps_plant (P := Plant.claimedLaw) Plant.Moves.claimedLaw Plant.claimedLaw_reset
    (fun c x hx hpart hp => ⟨hp.1, fun d => by
      have hfree := (ho.2 hpart).1.1
      have hd : (s.plant.setClient c x).claimedBy d = 0 := by simp [Plant.claimedBy, Plant.ownedBy, hfree]
      have hd' : s.plant.claimedBy d = 0 := by simp [Plant.claimedBy, Plant.ownedBy, hfree]
      rw [hd, Plant.client_setClient]
      split
      · exact hx
      · rw [hp.2 d, hd']⟩) hs h
end

section
/-! The record that each act of the engine leaves in the slot it acts on; every other slot stays. -/

namespace Sys2Proof.Machine

/-- The record of an allotment in transition toward the targets `d`, with its transition charge (R69, R70). -/
def Plant.inMotion (p : Plant) (a : Allotment) (d : Term → Nat) (oc : Option FallOutcome) : Allotment :=
  { p.inTransition a d oc with charge := p.transitionCharge a.terms d }

/-- The record with the changed flag that an event of origin `o` leaves (R14). -/
def Allotment.marked (a : Allotment) (o : Origin) (i : SlotIx) : Allotment :=
  { a with changed := a.changed || !o.spares i a }

/-- The record a cut leaves: no targets, no charge, nothing unsettled, in the state `st`, flagged (R38, R119). -/
def Allotment.cutTo (a : Allotment) (st : AllotState) : Allotment :=
  { a.halted with charge := 0, state := st, changed := true }

/-- The record the end of a fall leaves, by its outcome (R74). -/
def Allotment.fallen (a : Allotment) : FallOutcome → Allotment
  | .running => { a with state := .running, charge := a.requestCost, changed := true }
  | .reduced => { a with state := .reduced, charge := a.floorCost, changed := true }
  | .waiting => { a with state := .waiting, charge := 0, changed := true }
  | .free => a.freed

/-- The record a trip leaves, by the state it found (R116 to R120). -/
def Allotment.trippedFrom (a : Allotment) : Allotment :=
  match a.state with
  | .free | .tripped => a
  | .waiting | .staged => { a with state := .tripped, changed := true }
  | .falling .free => a.freed
  | .rising | .running | .reduced | .falling .waiting | .falling .reduced | .falling .running => a.cutTo .tripped

/-- A transition reads the output stage only. -/
theorem Plant.inMotion_congr {p q : Plant} (h : q.out = p.out) : q.inMotion = p.inMotion := by
  cases p; cases q; cases h; rfl

theorem Plant.allot_startTransition' (p : Plant) (i j : SlotIx) (d : Term → Nat) (oc : Option FallOutcome) :
    (p.startTransition i d oc).allot j = if j = i then p.inMotion (p.allot i) d oc else p.allot j :=
  p.allot_startTransition i j d oc

theorem Plant.allot_marked {p q : Plant} {o : Origin} {i : SlotIx} {a : Allotment}
    (h : ∀ j, q.allot j = if j = i then a else p.allot j) (j : SlotIx) :
    (q.markChanged o i).allot j = if j = i then a.marked o i else p.allot j := by
  rw [Plant.allot_markChanged]
  by_cases hj : j = i
  · subst hj; simp [h, Allotment.marked]
  · simp [h, hj]

@[simp] theorem Plant.retire_allot (p : Plant) (i j : SlotIx) : (p.retire i).allot j = p.allot j := by
  simp [Plant.allot]

theorem Plant.allot_releaseDriven (p : Plant) (o : Origin) (i : SlotIx) (retires : Bool) (j : SlotIx) :
    (p.releaseDriven o i retires).allot j =
      if j = i then (p.inMotion (p.allot i) (fun _ => 0) (some .free)).marked o i else p.allot j := by
  have h := Plant.allot_marked (o := o) (p.allot_startTransition' i · (fun _ => 0) (some .free)) j
  cases retires with
  | false => exact h
  | true => exact (Plant.retire_allot _ i j).trans h

theorem Plant.allot_releaseIdle (p : Plant) (i : SlotIx) (retires : Bool) (j : SlotIx) :
    (p.releaseIdle i retires).allot j = if j = i then (p.allot i).freed else p.allot j := by
  cases retires with
  | false => exact p.allot_freeSlot i j
  | true =>
    refine ((p.retire i).allot_freeSlot i j).trans ?_
    simp only [Plant.retire_allot]

theorem Plant.allot_settled (p : Plant) (i : SlotIx) (st : AllotState) (c : Nat) (j : SlotIx) :
    ((p.setState i st).setCharge i c).allot j =
      if j = i then { p.allot i with state := st, charge := c } else p.allot j := by
  rw [Plant.allot_setCharge]
  by_cases h : j = i
  · subst h; simp [Plant.allot_setState]
  · simp [h, Plant.allot_setState]

theorem Allotment.marked_other (a : Allotment) (i : SlotIx) : a.marked .other i = { a with changed := true } := by
  simp [Allotment.marked, Origin.spares]

theorem Plant.allot_endRise (p : Plant) (i j : SlotIx) :
    (p.endRise i).allot j = if j = i then (p.allot i).fallen .running else p.allot j := by
  rw [Plant.endRise, Plant.allot_marked (p.allot_settled i .running _), Allotment.marked_other]; rfl

theorem Plant.allot_endFall (p : Plant) (i : SlotIx) (o : FallOutcome) (j : SlotIx) :
    (p.endFall i o).allot j = if j = i then (p.allot i).fallen o else p.allot j := by
  cases o with
  | running => exact p.allot_endRise i j
  | reduced =>
    simp only [Plant.endFall]
    rw [Plant.allot_marked (p := p) (a := { p.allot i with state := .reduced, charge := (p.allot i).floorCost })
      (fun k => by rw [Plant.queueBack_allot, Plant.allot_settled]), Allotment.marked_other]; rfl
  | waiting =>
    simp only [Plant.endFall]
    rw [Plant.allot_marked (p := p) (a := { p.allot i with state := .waiting, charge := 0 })
      (fun k => by rw [Plant.queueFront_allot, Plant.leaveGrants_allot, Plant.allot_settled]),
      Allotment.marked_other]; rfl
  | free =>
    simp only [Plant.endFall]
    rw [Plant.allot_freeSlot]
    by_cases h : j = i
    · subst h; simp only [if_true, Plant.allot_markChanged, Plant.leaveGrants_allot]; rfl
    · simp only [if_neg h, Plant.allot_markChanged, Plant.leaveGrants_allot]

/-- A cut, the flag and then a state: the record of R38 and R119. -/
theorem Plant.allot_cutTo (p : Plant) (i : SlotIx) (st : AllotState) (j : SlotIx) :
    (((p.cutAllotment i).setState i st).markChanged .other i).allot j =
      if j = i then (p.allot i).cutTo st else p.allot j := by
  simp only [Plant.allot_markChanged, Plant.allot_setState, Plant.allot_cutAllotment, if_true]
  by_cases h : j = i <;> simp [h, Origin.spares, Allotment.cutTo]

theorem Plant.allot_tripOne (p : Plant) (i j : SlotIx) :
    (p.tripOne i).allot j = if j = i then (p.allot i).trippedFrom else p.allot j := by
  have same : p.allot j = if j = i then p.allot i else p.allot j := by
    split
    next h => rw [h]
    next => rfl
  have idle (q : Plant) (hq : ∀ k, q.allot k = p.allot k) :
      ((q.setState i .tripped).markChanged .other i).allot j =
        if j = i then { p.allot i with state := .tripped, changed := true } else p.allot j := by
    simp only [Plant.allot_markChanged, Plant.allot_setState, hq, if_true]
    by_cases h : j = i <;> simp [h, Origin.spares]
  have freed : (((p.cutAllotment i).markChanged .other i).freeSlot i).allot j =
      if j = i then (p.allot i).freed else p.allot j := by
    rw [Plant.allot_freeSlot]
    by_cases h : j = i
    · subst h; simp only [if_true, Plant.allot_markChanged, Plant.allot_cutAllotment]; rfl
    · simp only [if_neg h, Plant.allot_markChanged, Plant.allot_cutAllotment]
  have tripped := p.allot_cutTo i .tripped j
  cases hs : (p.allot i).state with
  | free => simpa only [Plant.tripOne, Allotment.trippedFrom, hs] using same
  | tripped => simpa only [Plant.tripOne, Allotment.trippedFrom, hs] using same
  | waiting => simpa only [Plant.tripOne, Allotment.trippedFrom, hs] using idle _ (p.leaveQueue_allot i)
  | staged => simpa only [Plant.tripOne, Allotment.trippedFrom, hs] using idle _ (p.setStage_allot none)
  | rising => simpa only [Plant.tripOne, Allotment.trippedFrom, hs] using tripped
  | running => simpa only [Plant.tripOne, Allotment.trippedFrom, hs] using tripped
  | reduced => simpa only [Plant.tripOne, Allotment.trippedFrom, hs] using tripped
  | falling o =>
    cases o with
    | free => simpa only [Plant.tripOne, Allotment.trippedFrom, hs] using freed
    | waiting => simpa only [Plant.tripOne, Allotment.trippedFrom, hs] using tripped
    | reduced => simpa only [Plant.tripOne, Allotment.trippedFrom, hs] using tripped
    | running => simpa only [Plant.tripOne, Allotment.trippedFrom, hs] using tripped

theorem Plant.allot_hardCutOne (p : Plant) (i j : SlotIx) :
    (p.hardCutOne i).allot j = if j = i then
      (if (p.allot i).state = .falling .free then (p.allot i).freed else (p.allot i).cutTo .waiting)
      else p.allot j := by
  unfold Plant.hardCutOne
  simp only
  split
  next hs =>
    rw [Plant.allot_freeSlot]
    by_cases h : j = i
    · subst h; simp only [if_true, Plant.allot_markChanged, Plant.allot_cutAllotment]; rfl
    · simp only [if_neg h, Plant.allot_markChanged, Plant.allot_cutAllotment]
  next =>
    simp only [Plant.queueFront_allot, Plant.allot_setState, Plant.allot_markChanged, Plant.allot_cutAllotment, if_true]
    by_cases h : j = i <;> simp [h, Origin.spares, Allotment.cutTo]

theorem Plant.allot_expired (p : Plant) (i j : SlotIx) :
    (p.expired i).allot j = if j = i then
      { p.inMotion (p.allot i) (fun _ => 0) (some .free) with
        run := (p.allot i).run.map fun r => { r with remaining := 0, counted := 0 }, changed := true }
      else p.allot j := by
  unfold Plant.expired Plant.fallToFree
  simp only [Plant.retire_allot, Plant.allot_markChanged, Plant.allot_startTransition', Plant.leaveQueue_allot,
    Plant.allot_setAllot, if_true]
  by_cases h : j = i
  · subst h
    simp only [if_true, Origin.spares, Bool.not_false, Bool.or_true]; rfl
  · simp only [if_neg h]

theorem Plant.allot_resolveSlot (p : Plant) (eff : Nat) (i j : SlotIx) :
    (p.resolveSlot eff i).allot j = if j = i then
      (if p.fits eff (p.allot i).requestCost then
        (p.inMotion (p.allot i) (·.requested) none).marked .other i
        else { p.allot i with state := .waiting, changed := true })
      else p.allot j := by
  unfold Plant.resolveSlot
  simp only
  split
  next =>
    exact Plant.allot_marked (p := p) (fun k => by
      rw [Plant.joinGrants_allot, Plant.allot_startTransition']; rfl) j
  next =>
    simp only [Plant.allot_markChanged, Plant.queueFront_allot, Plant.allot_setState, Plant.setStage_allot, if_true]
    by_cases h : j = i <;> simp [h, Origin.spares]

theorem Plant.allot_requeued (p : Plant) (o : Origin) (i j : SlotIx) :
    (p.requeued o i).allot j = if j = i then
      ({ (p.allot i).halted with state := .waiting, charge := 0 } : Allotment).marked o i else p.allot j := by
  unfold Plant.requeued
  refine Plant.allot_marked (p := p) (fun k => ?_) j
  rw [Plant.queueBack_allot, Plant.allot_setCharge]
  by_cases h : k = i
  · subst h; simp
  · simp [h, Plant.allot_setAllot_ne]

/-- The record of an accepted reshape (R81 to R83). -/
def Plant.reshapedRecord (p : Plant) (a : Allotment) (ds : List Nat) : Allotment :=
  if a.state = .waiting then p.reshaped a ds
  else if a.terms.map (·.requested) = ds then a
  else p.inMotion (p.reshaped a ds) (·.requested) (some .running)

theorem Plant.allot_reshapeAccepted (p : Plant) (i j : SlotIx) (ds : List Nat) :
    (p.reshapeAccepted i ds).allot j = if j = i then p.reshapedRecord (p.allot i) ds else p.allot j := by
  unfold Plant.reshapeAccepted Plant.reshapedRecord
  simp only
  split
  next => exact p.allot_storeReshape i j ds
  split
  next =>
    split
    next h => rw [h]
    next => rfl
  next =>
    rw [Plant.allot_startTransition', Plant.allot_storeReshape, if_pos rfl]
    have hout : (p.storeReshape i ds).out = p.out := by simp [Plant.storeReshape]
    rw [Plant.inMotion_congr hout]
    by_cases h : j = i
    · simp only [if_pos h]
    · simp only [if_neg h, Plant.allot_storeReshape]

theorem Plant.allot_createAllotment (p : Plant) (c : ClientIx) (payload : List Byte) (i j : SlotIx) :
    (p.createAllotment c payload i).allot j =
      if j = i then { p.claimRecord c payload (p.allot i) with charge := 0 } else p.allot j := by
  have hj := Plant.allot_setCharge (p.setAllot i (p.claimRecord c payload (p.allot i))) i j 0
  rw [Plant.allot_setAllot_self] at hj
  refine Eq.trans ?_ (hj.trans ?_)
  · simp only [Plant.createAllotment, Plant.allot]; rfl
  · by_cases h : j = i
    · simp [h]
    · simp [h, Plant.allot_setAllot_ne _ _ h]

end Sys2Proof.Machine
end

section
/-! The wait queue, the grant list and the stage (R45, R49, R62): what one act does to each of them, and that every act
keeps them exact and the queue ordered. -/

namespace Sys2Proof.Machine

/-- The lists are exact and the queue is ordered (R45, R49, R62). -/
def Plant.listsOk (p : Plant) : Prop := p.listsExact ∧ p.queueOrdered

/-! ### Lists of handles -/

section Lists
variable {p q : Plant} {i : SlotIx} {a : Allotment} {l : List Handle} {f : AllotState → Bool}

/-- In an exact list the entry of a slot is that of its present allotment. -/
theorem Plant.lists.mem_iff_slot (h : p.lists l f) {e : Handle} (he : e ∈ l) : f (p.allot e.slot).state = true := by
  have := h.2.1 e he
  exact (h.2.2 e.slot).mp (this ▸ he)

/-- An exact list names no slot twice. -/
theorem Plant.lists.slots_nodup (h : p.lists l f) : (l.map Handle.slot).Nodup :=
  h.1.map_on fun x hx y hy hxy => by rw [h.2.1 x hx, h.2.1 y hy, hxy]

/-- A slot in no state of the list has no entry in it. -/
theorem Plant.lists.filter_eq (h : p.lists l f) (hi : f (p.allot i).state = false) :
    (l.filter fun e => e.slot ≠ i) = l := by
  rw [List.filter_eq_self]
  intro e he
  simp only [decide_eq_true_eq]
  rintro rfl
  simp [h.mem_iff_slot he] at hi

theorem Plant.handleOf_of_ne (ha : ∀ j, q.allot j = if j = i then a else p.allot j) {j : SlotIx} (h : j ≠ i) :
    q.handleOf j = p.handleOf j := by simp [Plant.handleOf, ha, h]

theorem Plant.handleOf_of_gen (ha : ∀ j, q.allot j = if j = i then a else p.allot j)
    (hg : a.generation = (p.allot i).generation) (j : SlotIx) : q.handleOf j = p.handleOf j := by
  by_cases h : j = i
  · subst h; simp [Plant.handleOf, ha, hg]
  · exact Plant.handleOf_of_ne ha h

/-- The slot leaves the list. -/
theorem Plant.lists.leave (h : p.lists l f) (ha : ∀ j, q.allot j = if j = i then a else p.allot j)
    (hf : f a.state = false) : q.lists (l.filter fun e => e.slot ≠ i) f := by
  refine ⟨h.1.filter _, fun e he => ?_, fun j => ?_⟩
  · obtain ⟨hel, hei⟩ := List.mem_filter.mp he
    rw [Plant.handleOf_of_ne ha (by simpa using hei)]
    exact h.2.1 e hel
  · rw [List.mem_filter]
    by_cases hj : j = i
    · subst hj; simp [Plant.handleOf, ha, hf]
    · rw [Plant.handleOf_of_ne ha hj, h.2.2 j, ha, if_neg hj]
      simp [Plant.handleOf, hj]

/-- The slot stays in the list, or out of it. -/
theorem Plant.lists.stay (h : p.lists l f) (ha : ∀ j, q.allot j = if j = i then a else p.allot j)
    (hg : a.generation = (p.allot i).generation ∨ f a.state = false) (hf : f a.state = f (p.allot i).state) :
    q.lists l f := by
  by_cases hfa : f a.state = true
  · have hgen := Plant.handleOf_of_gen ha (hg.resolve_right (by simp [hfa]))
    refine ⟨h.1, fun e he => by rw [hgen]; exact h.2.1 e he, fun j => ?_⟩
    rw [hgen, h.2.2 j, ha]
    split
    next hj => rw [hj, hf]
    next => rfl
  · have hfa' : f a.state = false := by simpa using hfa
    rw [← h.filter_eq (hf ▸ hfa')]
    exact h.leave ha hfa'

/-- The slot joins the list, wherever in it. -/
theorem Plant.lists.join {l' : List Handle} (h : p.lists l f) (ha : ∀ j, q.allot j = if j = i then a else p.allot j)
    (hg : a.generation = (p.allot i).generation) (hf : f a.state = true)
    (hl : l'.Perm (p.handleOf i :: l.filter fun e => e.slot ≠ i)) : q.lists l' f := by
  have hgen := Plant.handleOf_of_gen ha hg
  have hmem : ∀ e, e ∈ l' ↔ e = p.handleOf i ∨ (e ∈ l ∧ e.slot ≠ i) := fun e => by
    rw [hl.mem_iff, List.mem_cons, List.mem_filter]; simp
  refine ⟨hl.nodup_iff.mpr (List.nodup_cons.mpr ⟨?_, h.1.filter _⟩), fun e he => ?_, fun j => ?_⟩
  · simp [Plant.handleOf]
  · rw [hgen]
    rcases (hmem e).mp he with rfl | ⟨hel, -⟩
    · rfl
    · exact h.2.1 e hel
  · rw [hgen, hmem, ha]
    by_cases hj : j = i
    · subst hj; simp [hf]
    · have hne : p.handleOf j ≠ p.handleOf i := fun he => hj (congrArg Handle.slot he)
      rw [if_neg hj, h.2.2 j]
      simp [Plant.handleOf, hj]

end Lists

/-! ### Ranks (R41) -/

theorem ranksAbove_iff {levels : Vector (Fin 4) 6} {a b : ClassIx} :
    ranksAbove levels a b = true ↔ levels[b] < levels[a] ∨ (levels[a] = levels[b] ∧ a < b) := by
  simp [ranksAbove]

theorem ranksAbove_false_iff {levels : Vector (Fin 4) 6} {a b : ClassIx} :
    ranksAbove levels a b = false ↔ levels[a] < levels[b] ∨ (levels[a] = levels[b] ∧ b ≤ a) := by
  rw [← Bool.not_eq_true, ranksAbove_iff]
  generalize levels[a] = x
  generalize levels[b] = y
  simp only [Fin.lt_def, Fin.le_def, Fin.ext_iff]; omega

theorem ranksAbove_asymm {levels : Vector (Fin 4) 6} {a b : ClassIx} (h : ranksAbove levels a b = true) :
    ranksAbove levels b a = false := by
  rw [ranksAbove_iff] at h
  rw [ranksAbove_false_iff]
  generalize levels[a] = x at h ⊢
  generalize levels[b] = y at h ⊢
  simp only [Fin.lt_def, Fin.le_def, Fin.ext_iff] at h ⊢; omega

/-- What is not outranked by a class is not outranked by any class below it. -/
theorem ranksAbove_false_trans {levels : Vector (Fin 4) 6} {a b c : ClassIx}
    (h1 : ranksAbove levels a b = false) (h2 : ranksAbove levels b c = false) : ranksAbove levels a c = false := by
  rw [ranksAbove_false_iff] at *
  generalize levels[a] = x at *
  generalize levels[b] = y at *
  generalize levels[c] = z at *
  simp only [Fin.lt_def, Fin.le_def, Fin.ext_iff] at *; omega

/-! ### The order of the queue (R45) -/

/-- A list of handles stands from highest rank to lowest. -/
def Plant.ordered (p : Plant) (l : List Handle) : Prop :=
  l.Pairwise fun a b => ranksAbove p.eng.levels (p.classOf b) (p.classOf a) = false

section Order
variable {p q : Plant} {i : SlotIx} {a : Allotment} {l : List Handle}

/-- Order is a matter of the levels and of the classes of the entries. -/
theorem Plant.ordered.congr (h : p.ordered l) (hl : q.eng.levels = p.eng.levels)
    (hc : ∀ e ∈ l, q.classOf e = p.classOf e) : q.ordered l := by
  refine List.Pairwise.imp_of_mem ?_ h
  intro x y hx hy hxy
  rwa [hl, hc x hx, hc y hy]

/-- An entry put between higher and lower ones keeps the order. -/
theorem Plant.ordered.insert {pre post : List Handle} {e : Handle} (h : p.ordered (pre ++ post))
    (hpre : ∀ x ∈ pre, ranksAbove p.eng.levels (p.classOf e) (p.classOf x) = false)
    (hpost : ∀ x ∈ post, ranksAbove p.eng.levels (p.classOf x) (p.classOf e) = false) :
    p.ordered (pre ++ e :: post) := by
  unfold Plant.ordered at h ⊢
  rw [List.pairwise_append] at h ⊢
  obtain ⟨h1, h2, h3⟩ := h
  refine ⟨h1, List.pairwise_cons.mpr ⟨hpost, h2⟩, fun x hx y hy => ?_⟩
  rcases List.mem_cons.mp hy with rfl | hy
  · exact hpre x hx
  · exact h3 x hx y hy

/-- Where the head of an ordered list is not above a class, no entry is. -/
theorem Plant.ordered.head_bound {post : List Handle} (h : p.ordered post) {c : ClassIx}
    (hh : ∀ e ∈ post.head?, ranksAbove p.eng.levels (p.classOf e) c = false) :
    ∀ x ∈ post, ranksAbove p.eng.levels (p.classOf x) c = false := by
  cases post with
  | nil => simp
  | cons e r =>
    have he := hh e rfl
    intro x hx
    rcases List.mem_cons.mp hx with rfl | hx
    · exact he
    · exact ranksAbove_false_trans ((List.pairwise_cons.mp h).1 x hx) he

theorem Plant.ordered.placeBack {c : ClassIx} {e : Handle} (h : p.ordered l) (hc : p.classOf e = c) :
    p.ordered (placeBack p c e l) := by
  obtain ⟨pre, post, rfl, hpl, hpre, hhead⟩ := placeBack_split p c e l
  rw [hpl]
  refine h.insert (by rwa [hc]) ?_
  rw [hc]
  exact Plant.ordered.head_bound (List.pairwise_append.mp h).2.1 fun x hx => ranksAbove_asymm (hhead x hx)

theorem Plant.ordered.placeFront {c : ClassIx} {e : Handle} (h : p.ordered l) (hc : p.classOf e = c) :
    p.ordered (placeFront p c e l) := by
  obtain ⟨pre, post, rfl, hpl, hpre, hhead⟩ := placeFront_split p c e l
  rw [hpl]
  refine h.insert (by rw [hc]; exact fun x hx => (hpre x hx).2) ?_
  rw [hc]
  refine Plant.ordered.head_bound (List.pairwise_append.mp h).2.1 fun x hx => ?_
  rcases hhead x hx with hx | hx
  · rw [hx, ranksAbove_false_iff]; exact .inr ⟨rfl, le_rfl⟩
  · exact ranksAbove_asymm hx

/-- The places of the queue depend on the levels and the classes of the entries. -/
theorem placeBack_congr (hl : q.eng.levels = p.eng.levels) (hc : ∀ e, q.classOf e = p.classOf e) (c : ClassIx)
    (h : Handle) (l : List Handle) : placeBack q c h l = placeBack p c h l := by
  induction l with
  | nil => rfl
  | cons e r ih => simp only [placeBack, hl, hc, ih]

theorem placeFront_congr (hl : q.eng.levels = p.eng.levels) (hc : ∀ e, q.classOf e = p.classOf e) (c : ClassIx)
    (h : Handle) (l : List Handle) : placeFront q c h l = placeFront p c h l := by
  induction l with
  | nil => rfl
  | cons e r ih => simp only [placeFront, hl, hc, ih]

end Order

/-! ### What an event of one slot does to the lists -/

/-- What becomes of the wait queue while the record of slot `i` becomes `a`: nothing, the slot leaves it, or it joins at a
place of its rank (R45 to R48). -/
inductive Plant.QueueMove (p q : Plant) (i : SlotIx) (a : Allotment) : Prop
  | stays (h : q.eng.queue = p.eng.queue) (hf : a.state.queued = (p.allot i).state.queued)
      (hc : a.cls = (p.allot i).cls ∨ a.state.queued = false)
  | leaves (h : q.eng.queue = p.eng.queue.filter fun e => e.slot ≠ i) (hf : a.state.queued = false)
  | back (h : q.eng.queue = placeBack q a.cls (q.handleOf i) (p.eng.queue.filter fun e => e.slot ≠ i))
      (hf : a.state.queued = true)
  | front (h : q.eng.queue = placeFront q a.cls (q.handleOf i) (p.eng.queue.filter fun e => e.slot ≠ i))
      (hf : a.state.queued = true)

/-- What becomes of the grant list (R49, R50). -/
inductive Plant.GrantMove (p q : Plant) (i : SlotIx) (a : Allotment) : Prop
  | stays (h : q.eng.grants = p.eng.grants) (hf : a.state.granted = (p.allot i).state.granted)
  | leaves (h : q.eng.grants = p.eng.grants.filter fun e => e.slot ≠ i) (hf : a.state.granted = false)
  | joins (h : q.eng.grants = p.eng.grants ++ [p.handleOf i]) (hp : (p.allot i).state.granted = false)
      (hf : a.state.granted = true)

/-- What becomes of the stage (R62). -/
inductive Plant.StageMove (p q : Plant) (i : SlotIx) (a : Allotment) : Prop
  | stays (h : q.eng.stage = p.eng.stage) (hp : (p.allot i).state ≠ .staged) (hf : a.state ≠ .staged)
  | empties (h : q.eng.stage = none) (hp : (p.allot i).state = .staged) (hf : a.state ≠ .staged)
  | fills (h : q.eng.stage = some (p.handleOf i)) (hp : p.eng.stage = none) (hf : a.state = .staged)
  | keeps (h : q.eng.stage = p.eng.stage) (hf : a.state = (p.allot i).state)

theorem AllotState.lists_of_free {st : AllotState} (h : st = .free) :
    st.queued = false ∧ st.granted = false ∧ st ≠ .staged := by
  subst h; exact ⟨rfl, rfl, by simp⟩

theorem Plant.stage_update {p q : Plant} {i : SlotIx} {a : Allotment} (he : p.stageExact) (hc : p.stageCurrent)
    (ha : ∀ j, q.allot j = if j = i then a else p.allot j)
    (hg : a.generation = (p.allot i).generation ∨ a.state = .free) (h : p.StageMove q i a) :
    q.stageExact ∧ q.stageCurrent := by
  have hsame (hst : q.eng.stage = p.eng.stage) (hgen : a.generation = (p.allot i).generation)
      (hf : a.state = .staged ↔ (p.allot i).state = .staged) : q.stageExact ∧ q.stageCurrent := by
    have hh := Plant.handleOf_of_gen ha hgen
    refine ⟨fun j => ?_, fun x hx => by rw [hh]; exact hc x (hst ▸ hx)⟩
    rw [hh, hst, ← he j, ha]
    split
    next hj => rw [hj, hf]
    next => rfl
  have hout (hp : (p.allot i).state ≠ .staged) : ∀ x ∈ p.eng.stage, x.slot ≠ i := by
    rintro x hx rfl
    exact hp ((he x.slot).mpr ((Option.mem_def.mp hx).trans (congrArg some (hc x hx))))
  have hstays (hst : q.eng.stage = p.eng.stage) (hp : (p.allot i).state ≠ .staged) (hf : a.state ≠ .staged) :
      q.stageExact ∧ q.stageCurrent := by
    refine ⟨fun j => ?_, fun x hx => ?_⟩
    · by_cases hj : j = i
      · subst hj
        simp only [ha, if_true, hf, false_iff, hst]
        exact fun hx => hout hp _ (Option.mem_def.mpr hx) rfl
      · rw [Plant.handleOf_of_ne ha hj, hst, ← he j, ha, if_neg hj]
    · rw [hst] at hx
      rw [Plant.handleOf_of_ne ha (hout hp x hx)]
      exact hc x hx
  cases h with
  | stays hst hp hf => exact hstays hst hp hf
  | empties hst hp hf =>
    refine ⟨fun j => ?_, fun x hx => by rw [hst] at hx; cases hx⟩
    rw [ha, hst]
    by_cases hj : j = i
    · simp [hj, hf]
    · have hne : p.eng.stage ≠ some (p.handleOf j) := fun hx => by
        rw [(he i).mp hp] at hx
        exact hj (congrArg Handle.slot (Option.some.inj hx)).symm
      simp [hj, he j, hne]
  | fills hst hp hf =>
    have hh := Plant.handleOf_of_gen ha (hg.resolve_right (by simp [hf]))
    refine ⟨fun j => ?_, fun x hx => ?_⟩
    · rw [hh, hst, ha]
      by_cases hj : j = i
      · subst hj; simp [hf]
      · have hne : (p.allot j).state ≠ .staged := fun hx => by rw [(he j).mp hx] at hp; cases hp
        simp only [if_neg hj, hne, false_iff, Option.some.injEq]
        exact fun hx => hj (congrArg Handle.slot hx).symm
    · rw [hst] at hx
      cases hx
      exact (hh i).symm
  | keeps hst hf =>
    rcases hg with hg | hfree
    · exact hsame hst hg (by rw [hf])
    · exact hstays hst (by rw [← hf, hfree]; simp) (by rw [hfree]; simp)

/-- An event of one slot keeps the lists exact and the queue ordered, when it moves the slot through them as its states
say. -/
theorem Plant.listsOk.update {p q : Plant} {i : SlotIx} {a : Allotment} (hp : p.listsOk)
    (ha : ∀ j, q.allot j = if j = i then a else p.allot j) (hl : q.eng.levels = p.eng.levels)
    (hg : a.generation = (p.allot i).generation ∨ a.state = .free)
    (hq : p.QueueMove q i a) (hgr : p.GrantMove q i a) (hs : p.StageMove q i a) : q.listsOk := by
  obtain ⟨⟨hqueue, hgrants, hexact, hcurrent⟩, hord⟩ := hp
  have hgen {f : AllotState → Bool} (hfree : f .free = false) :
      a.generation = (p.allot i).generation ∨ f a.state = false := hg.imp_right fun h => by rw [h, hfree]
  have hgt {f : AllotState → Bool} (hfree : f .free = false) (h : f a.state = true) :
      a.generation = (p.allot i).generation := (hgen hfree).resolve_right (by simp [h])
  have hclass : ∀ e : Handle, e.slot ≠ i → q.classOf e = p.classOf e := fun e he => by
    simp [Plant.classOf, ha, he]
  have hrest : q.ordered (p.eng.queue.filter fun e => e.slot ≠ i) :=
    Plant.ordered.congr (hord.sublist List.filter_sublist) hl fun e he =>
      hclass e (by simpa using (List.mem_filter.mp he).2)
  have hself : q.classOf (q.handleOf i) = a.cls := by simp [Plant.classOf, Plant.handleOf, ha]
  have hqok : q.lists q.eng.queue AllotState.queued ∧ q.queueOrdered := by
    change _ ∧ q.ordered q.eng.queue
    cases hq with
    | stays h hf hc =>
      rw [h]
      refine ⟨hqueue.stay ha (hgen rfl) hf, Plant.ordered.congr hord hl fun e he => ?_⟩
      by_cases hei : e.slot = i
      · have hqi := hqueue.mem_iff_slot he
        rw [hei] at hqi
        simp [Plant.classOf, hei, ha, hc.resolve_right (by simp [hf, hqi])]
      · exact hclass e hei
    | leaves h hf => rw [h]; exact ⟨hqueue.leave ha hf, hrest⟩
    | back h hf =>
      rw [h]
      have hh := Plant.handleOf_of_gen ha (hgt rfl hf) i
      exact ⟨hqueue.join ha (hgt rfl hf) hf (hh ▸ placeBack_perm _ _ _ _), hrest.placeBack hself⟩
    | front h hf =>
      rw [h]
      have hh := Plant.handleOf_of_gen ha (hgt rfl hf) i
      exact ⟨hqueue.join ha (hgt rfl hf) hf (hh ▸ placeFront_perm _ _ _ _), hrest.placeFront hself⟩
  have hgok : q.lists q.eng.grants AllotState.granted := by
    cases hgr with
    | stays h hf => rw [h]; exact hgrants.stay ha (hgen rfl) hf
    | leaves h hf => rw [h]; exact hgrants.leave ha hf
    | joins h hpi hf =>
      rw [h]
      refine hgrants.join ha (hgt rfl hf) hf ?_
      rw [hgrants.filter_eq hpi]
      exact List.perm_append_comm
  exact ⟨⟨hqok.1, hgok, Plant.stage_update hexact hcurrent ha hg hs⟩, hqok.2⟩

/-- Nothing but what the lists speak of matters to them. -/
theorem Plant.listsOk.congr {p q : Plant} (hp : p.listsOk) (ha : ∀ j, q.allot j = p.allot j)
    (hl : q.eng.levels = p.eng.levels) (hq : q.eng.queue = p.eng.queue) (hg : q.eng.grants = p.eng.grants)
    (hs : q.eng.stage = p.eng.stage) : q.listsOk := by
  simpa only [Plant.listsOk, Plant.listsExact, Plant.lists, Plant.stageExact, Plant.stageCurrent, Plant.queueOrdered,
    Plant.handleOf, Plant.classOf, ha, hl, hq, hg, hs] using hp

/-- Regrouping under other levels orders the queue again (R43). -/
theorem Plant.listsOk.relevelled {p : Plant} (hp : p.listsOk) (levels : Vector (Fin 4) 6) :
    (p.relevelled levels).listsOk := by
  obtain ⟨⟨hqueue, hgrants, hstage⟩, -⟩ := hp
  have hperm : (p.relevelled levels).eng.queue.Perm p.eng.queue :=
    flatMap_filter_perm (classesByRank_perm levels) p.classOf p.eng.queue
  refine ⟨⟨⟨hperm.nodup_iff.mpr hqueue.1, fun e he => hqueue.2.1 e (hperm.mem_iff.mp he), fun j =>
    hperm.mem_iff.trans (hqueue.2.2 j)⟩, hgrants, hstage⟩, ?_⟩
  change List.Pairwise _ ((classesByRank levels).flatMap fun c => p.eng.queue.filter fun h => p.classOf h = c)
  rw [List.pairwise_flatMap]
  constructor
  · intro c _
    refine List.pairwise_of_forall_mem_list fun x hx y hy => ?_
    have hxc : p.classOf x = c := by simpa using (List.mem_filter.mp hx).2
    have hyc : p.classOf y = c := by simpa using (List.mem_filter.mp hy).2
    change ranksAbove levels (p.classOf y) (p.classOf x) = false
    rw [hxc, hyc, ranksAbove_false_iff]
    exact .inr ⟨rfl, le_rfl⟩
  · refine (classesByRank_pairwise levels).imp fun hcd x hx y hy => ?_
    have hxc := (List.mem_filter.mp hx).2
    have hyc := (List.mem_filter.mp hy).2
    simp only [decide_eq_true_eq] at hxc hyc
    change ranksAbove levels (p.classOf y) (p.classOf x) = false
    rw [hxc, hyc]
    exact ranksAbove_asymm hcd

end Sys2Proof.Machine
end

section
/-! Every act keeps the lists exact and the queue ordered. -/

namespace Sys2Proof.Machine

/-- A transition takes an allotment out of WAITING, REDUCED and STAGED into a state of the grant list (R69). -/
theorem Plant.transitionState_lists (p : Plant) (terms : List Term) (d : Term → Nat) (oc : Option FallOutcome) :
    (p.transitionState terms d oc).queued = false ∧ (p.transitionState terms d oc).granted = true
      ∧ p.transitionState terms d oc ≠ .staged := by
  cases oc with
  | none => exact ⟨rfl, rfl, by simp [Plant.transitionState]⟩
  | some o => simp only [Plant.transitionState]; split <;> exact ⟨rfl, rfl, by simp⟩

theorem AllotState.ne_staged_of_granted {st : AllotState} (h : st.granted = true) : st ≠ .staged := by
  rintro rfl; cases h

theorem AllotState.granted_of_runs {st : AllotState} (h : st.runs = true) : st.granted = true := by
  cases st <;> simp_all [AllotState.runs, AllotState.granted]

/-- An allotment in transition stands in the grant list and nowhere else (R49, R69). -/
theorem AllotState.lists_of_moving {st : AllotState} (h : st.moving = true) :
    st.queued = false ∧ st.granted = true ∧ st ≠ .staged := by
  cases st <;> simp_all [AllotState.moving, AllotState.outcome?, AllotState.queued, AllotState.granted]

section Places
variable {p q r : Plant} {i : SlotIx} {a : Allotment}

/-- The slot joins the queue by `Plant.queueBack`, from a plant that differs from the one after the event in nothing that
a place depends on. -/
theorem Plant.QueueMove.ofBack (hq : q.eng.queue = (r.queueBack i).eng.queue) (hl : r.eng.levels = q.eng.levels)
    (hr : r.eng.queue = p.eng.queue.filter fun e => e.slot ≠ i)
    (hc : ∀ j, (r.allot j).cls = (q.allot j).cls) (hg : r.handleOf i = q.handleOf i) (ha : q.allot i = a)
    (hf : a.state.queued = true) : p.QueueMove q i a := by
  refine .back ?_ hf
  rw [hq, ← ha, ← hc i, ← hg, ← hr]
  exact (placeBack_congr (p := q) hl (fun e => hc e.slot) _ _ _)

theorem Plant.QueueMove.ofFront (hq : q.eng.queue = (r.queueFront i).eng.queue) (hl : r.eng.levels = q.eng.levels)
    (hr : r.eng.queue = p.eng.queue.filter fun e => e.slot ≠ i)
    (hc : ∀ j, (r.allot j).cls = (q.allot j).cls) (hg : r.handleOf i = q.handleOf i) (ha : q.allot i = a)
    (hf : a.state.queued = true) : p.QueueMove q i a := by
  refine .front ?_ hf
  rw [hq, ← ha, ← hc i, ← hg, ← hr]
  exact (placeFront_congr (p := q) hl (fun e => hc e.slot) _ _ _)

end Places

theorem Plant.listsOk.distinct {p : Plant} (hp : p.listsOk) : p.grantsDistinct := hp.1.2.1.slots_nodup

/-- The stage holds the handle of a STAGED allotment (R62). -/
theorem Plant.listsOk.staged {p : Plant} (hp : p.listsOk) {h : Handle} (hs : p.eng.stage = some h) :
    (p.allot h.slot).state = .staged :=
  (hp.1.2.2.1 h.slot).mpr (hs.trans (congrArg some (hp.1.2.2.2 h hs)))

theorem Plant.PassAct.listsOk {eff : Nat} {o : Origin} {p q : Plant} (h : Plant.PassAct eff o p q) (hp : p.listsOk) :
    q.listsOk := by
  cases h with
  | topUp i hs _ =>
    obtain ⟨hq, hg, hst⟩ := p.transitionState_lists (p.allot i).terms (·.requested) none
    exact hp.update (p.allot_topUp o i) (by simp [Plant.topUp]) (.inl rfl)
      (.leaves (by simp [Plant.topUp, Plant.leaveQueue]) hq) (.stays (by simp [Plant.topUp]) (by rw [hs]; exact hg))
      (.stays (by simp [Plant.topUp]) (by simp [hs]) hst)
  | grant i hs _ =>
    obtain ⟨hq, hg, hst⟩ := p.transitionState_lists (p.allot i).terms (·.requested) none
    exact hp.update (fun j => (p.allot_grant o i j).trans (p.allot_topUp o i j)) (by simp [Plant.grant]) (.inl rfl)
      (.leaves (by simp [Plant.grant, Plant.leaveQueue]) hq)
      (.joins (by
        simp [Plant.grant, Plant.joinGrants, Plant.handleOf, Plant.allot_startTransition, Plant.inTransition])
        (by rw [hs]; rfl) hg)
      (.stays (by simp [Plant.grant]) (by simp [hs]) hst)
  | reduce i _ _ hs =>
    have hrun := hs hp.distinct
    obtain ⟨hq, hg, hst⟩ :=
      p.transitionState_lists (p.allot i).terms (p.allot i).floorDutyOf (some .reduced)
    exact hp.update (p.allot_reduceVictim o i) (by simp [Plant.reduceVictim]) (.inl rfl)
      (.stays (by simp [Plant.reduceVictim]) (by rw [hrun]; exact hq) (.inl rfl))
      (.stays (by simp [Plant.reduceVictim]) (by rw [hrun]; exact hg))
      (.stays (by simp [Plant.reduceVictim]) (by simp [hrun]) hst)
  | shed i hgr _ =>
    obtain ⟨hq, hg, hst⟩ := p.transitionState_lists (p.allot i).terms (fun _ => 0) (some .waiting)
    exact hp.update (p.allot_shedVictim o i) (by simp [Plant.shedVictim]) (.inl rfl)
      (.leaves (by simp [Plant.shedVictim, Plant.leaveQueue]) hq)
      (.stays (by simp [Plant.shedVictim]) (by rw [hgr]; exact hg))
      (.stays (by simp [Plant.shedVictim]) (AllotState.ne_staged_of_granted hgr) hst)
  | stage i hs he =>
    exact hp.update (p.allot_stageEntry o i) (by simp [Plant.stageEntry]) (.inl rfl)
      (.leaves (by simp [Plant.stageEntry, Plant.leaveQueue, Plant.setStage, Plant.setCharge]) rfl)
      (.stays (by simp [Plant.stageEntry]) (by rw [hs]; rfl))
      (.fills (by simp [Plant.stageEntry]) he rfl)

theorem Plant.resolveSlot_listsOk {p : Plant} (hp : p.listsOk) {i : SlotIx} (hs : (p.allot i).state = .staged)
    (eff : Nat) : (p.resolveSlot eff i).listsOk := by
  have hall := p.allot_resolveSlot eff i
  obtain ⟨hq, hg, hst⟩ := p.transitionState_lists (p.allot i).terms (·.requested) none
  have hqueued : (p.allot i).state.queued = false := by rw [hs]; rfl
  have hgranted : (p.allot i).state.granted = false := by rw [hs]; rfl
  by_cases hf : p.fits eff (p.allot i).requestCost = true
  · simp only [if_pos hf] at hall
    exact hp.update hall (by simp [Plant.resolveSlot, hf]) (.inl rfl)
      (.stays (by simp [Plant.resolveSlot, hf]) (by rw [hqueued]; exact hq) (.inl rfl))
      (.joins (by
        simp [Plant.resolveSlot, hf, Plant.joinGrants, Plant.handleOf, Plant.allot_startTransition, Plant.inTransition])
        hgranted hg)
      (.empties (by simp [Plant.resolveSlot, hf]) hs hst)
  · simp only [if_neg hf] at hall
    refine hp.update hall (by simp [Plant.resolveSlot, hf]) (.inl rfl) (.ofFront
      (r := (p.setStage none).setState i .waiting) (by simp [Plant.resolveSlot, hf])
      (by simp [Plant.resolveSlot, hf]) (hp.1.1.filter_eq hqueued).symm (fun j => ?_) ?_ (by rw [hall, if_pos rfl])
      rfl) (.stays (by simp [Plant.resolveSlot, hf]) (by rw [hgranted]; rfl))
      (.empties (by simp [Plant.resolveSlot, hf]) hs (by simp))
    · rw [hall, Plant.allot_setState]; split <;> rfl
    · simp only [Plant.handleOf, hall, Plant.allot_setState]; rfl

theorem Plant.endFall_listsOk {p : Plant} (hp : p.listsOk) {i : SlotIx} {o : FallOutcome}
    (hm : (p.allot i).state.moving = true) : (p.endFall i o).listsOk := by
  have hall := p.allot_endFall i o
  obtain ⟨hqueued, hgranted, hstage⟩ := AllotState.lists_of_moving hm
  have hfilter := hp.1.1.filter_eq hqueued
  cases o with
  | running =>
    exact hp.update hall rfl (.inl rfl) (.stays rfl (by rw [hqueued]; rfl) (.inl rfl))
      (.stays rfl (by rw [hgranted]; rfl)) (.stays rfl hstage (by simp [Allotment.fallen]))
  | reduced =>
    refine hp.update hall rfl (.inl rfl) (.ofBack
      (r := (p.setState i .reduced).setCharge i (p.allot i).floorCost) (by simp [Plant.endFall]) rfl
      hfilter.symm (fun j => ?_) ?_ (by rw [hall, if_pos rfl]) rfl) (.stays rfl (by rw [hgranted]; rfl))
      (.stays rfl hstage (by simp [Allotment.fallen]))
    · rw [hall, Plant.allot_settled]; split <;> rfl
    · simp only [Plant.handleOf, hall, Plant.allot_settled]; rfl
  | waiting =>
    refine hp.update hall rfl (.inl rfl) (.ofFront
      (r := ((p.setState i .waiting).setCharge i 0).leaveGrants i) (by simp [Plant.endFall]) rfl
      hfilter.symm (fun j => ?_) ?_ (by rw [hall, if_pos rfl]) rfl) (.leaves rfl rfl)
      (.stays rfl hstage (by simp [Allotment.fallen]))
    · rw [hall, Plant.leaveGrants_allot, Plant.allot_settled]; split <;> rfl
    · simp only [Plant.handleOf, hall, Plant.leaveGrants_allot, Plant.allot_settled]; rfl
  | free =>
    obtain ⟨-, hfq, hfg, hfs, hfl, -⟩ := ((p.leaveGrants i).markChanged .other i).freeSlot_frame i
    exact hp.update hall hfl (.inr rfl) (.stays hfq (by rw [hqueued]; rfl) (.inr rfl)) (.leaves hfg rfl)
      (.stays hfs hstage (by simp [Allotment.fallen, Allotment.freed, Allotment.reset]))

theorem Plant.releaseIdle_frame (p : Plant) (i : SlotIx) (retires : Bool) :
    (p.releaseIdle i retires).eng.queue = p.eng.queue ∧ (p.releaseIdle i retires).eng.grants = p.eng.grants
      ∧ (p.releaseIdle i retires).eng.stage = p.eng.stage
      ∧ (p.releaseIdle i retires).eng.levels = p.eng.levels := by
  obtain ⟨-, h1, h2, h3, h4, -⟩ := p.freeSlot_frame i
  rw [(p.releaseIdle_eng i retires).1]
  exact ⟨h1, h2, h3, h4⟩

theorem Plant.releaseDriven_frame (p : Plant) (o : Origin) (i : SlotIx) (retires : Bool) :
    (p.releaseDriven o i retires).eng = ((p.fallToFree i).markChanged o i).eng
      ∧ (p.releaseDriven o i retires).out = p.out.command (p.allot i).terms (fun _ => 0) ((p.allot i).commandId + 1) := by
  cases retires with
  | false => exact ⟨rfl, by simp [Plant.releaseDriven, Plant.fallToFree]⟩
  | true => exact ⟨Plant.retire_eng _ i, by simp [Plant.releaseDriven, Plant.fallToFree]⟩

/-- A release of any allotment: of one that holds no output, its slot is freed out of the queue or the stage (R87); of one
that drives its channels, it keeps its place in the grant list (R88 to R90). -/
theorem Plant.releaseOne_listsOk {p : Plant} (hp : p.listsOk) (o : Origin) (retires : Bool) (i : SlotIx) :
    (p.releaseOne o retires i).listsOk := by
  have hidle (q : Plant) := q.releaseIdle_frame i retires
  have driven (q : Plant) (hqa : ∀ j, q.allot j = p.allot j) (hqo : q.out = p.out)
      (hqq : q.eng.queue = p.eng.queue.filter fun e => e.slot ≠ i) (hqg : q.eng.grants = p.eng.grants)
      (hqs : q.eng.stage = p.eng.stage) (hql : q.eng.levels = p.eng.levels)
      (hg : (p.allot i).state.granted = true) : (q.releaseDriven o i retires).listsOk := by
    obtain ⟨hx, hy, hz⟩ := q.transitionState_lists (p.allot i).terms (fun _ => 0) (some .free)
    have heng := (q.releaseDriven_frame o i retires).1
    refine hp.update (a := (q.inMotion (p.allot i) (fun _ => 0) (some .free)).marked o i)
      (fun j => by rw [Plant.allot_releaseDriven, hqa i, hqa j]) (by rw [heng]; simpa [Plant.fallToFree] using hql)
      (.inl rfl) (.leaves (by rw [heng]; simpa [Plant.fallToFree] using hqq) hx)
      (.stays (by rw [heng]; simpa [Plant.fallToFree] using hqg) (by rw [hg]; exact hy))
      (.stays (by rw [heng]; simpa [Plant.fallToFree] using hqs) (AllotState.ne_staged_of_granted hg) hz)
  have still (hqu : (p.allot i).state.queued = false) (hg : (p.allot i).state.granted = true) :
      (p.releaseDriven o i retires).listsOk :=
    driven p (fun _ => rfl) rfl (hp.1.1.filter_eq hqu).symm rfl rfl rfl hg
  unfold Plant.releaseOne
  split
  case h_1 => exact hp
  case h_2 hs =>
    obtain ⟨h1, h2, h3, h4⟩ := hidle (p.leaveQueue i)
    exact hp.update (Plant.allot_releaseIdle _ i retires) h4 (.inr rfl) (.leaves h1 rfl) (.stays h2 (by
      simp only [Plant.leaveQueue_allot, hs]; rfl)) (.stays h3 (by simp [hs]) (by
        simp [Allotment.freed, Allotment.reset]))
  case h_3 hs =>
    obtain ⟨h1, h2, h3, h4⟩ := hidle (p.setStage none)
    exact hp.update (Plant.allot_releaseIdle _ i retires) h4 (.inr rfl) (.stays h1 (by
      simp only [Plant.setStage_allot, hs]; rfl) (.inr rfl)) (.stays h2 (by
      simp only [Plant.setStage_allot, hs]; rfl)) (.empties h3 hs (by simp [Allotment.freed, Allotment.reset]))
  case h_4 hs =>
    obtain ⟨h1, h2, h3, h4⟩ := hidle p
    exact hp.update (Plant.allot_releaseIdle _ i retires) h4 (.inr rfl) (.stays h1 (by rw [hs]; rfl) (.inr rfl))
      (.stays h2 (by rw [hs]; rfl)) (.stays h3 (by simp [hs]) (by simp [Allotment.freed, Allotment.reset]))
  case h_7 hs => exact driven _ (p.leaveQueue_allot i) rfl rfl rfl rfl rfl (by rw [hs]; rfl)
  case h_8 => exact hp
  all_goals
    rename_i hs
    exact still (by rw [hs]; rfl) (by rw [hs]; rfl)

/-- A cut and then a state outside the queue, the grant list and the stage (R119). -/
theorem Plant.cutTripped_listsOk {p : Plant} (hp : p.listsOk) {i : SlotIx} (hg : (p.allot i).state.granted = true) :
    (((p.cutAllotment i).setState i .tripped).markChanged .other i).listsOk :=
  hp.update (p.allot_cutTo i .tripped) (by simp [Plant.cutAllotment]) (.inl rfl)
    (.leaves (by simp [Plant.cutAllotment, Plant.leaveQueue]) rfl)
    (.leaves (by simp [Plant.cutAllotment, Plant.leaveGrants]) rfl)
    (.stays (by simp [Plant.cutAllotment]) (AllotState.ne_staged_of_granted hg) (by simp [Allotment.cutTo]))

/-- A cut and then the freeing of the slot (R38, R120). -/
theorem Plant.cutFreed_listsOk {p : Plant} (hp : p.listsOk) {i : SlotIx} (hg : (p.allot i).state.granted = true) :
    (((p.cutAllotment i).markChanged .other i).freeSlot i).listsOk := by
  obtain ⟨-, hfq, hfg, hfs, hfl, -⟩ := ((p.cutAllotment i).markChanged .other i).freeSlot_frame i
  refine hp.update (a := (p.allot i).freed) (fun j => ?_)
    (hfl.trans (by simp [Plant.cutAllotment])) (.inr rfl)
    (.leaves (hfq.trans (by simp [Plant.cutAllotment, Plant.leaveQueue])) rfl)
    (.leaves (hfg.trans (by simp [Plant.cutAllotment, Plant.leaveGrants])) rfl)
    (.stays (hfs.trans (by simp [Plant.cutAllotment])) (AllotState.ne_staged_of_granted hg)
      (by simp [Allotment.freed, Allotment.reset]))
  rw [Plant.allot_freeSlot]
  by_cases h : j = i
  · subst h; simp only [if_true, Plant.allot_markChanged, Plant.allot_cutAllotment]; rfl
  · simp only [if_neg h, Plant.allot_markChanged, Plant.allot_cutAllotment]

theorem Plant.tripOne_listsOk {p : Plant} (hp : p.listsOk) (i : SlotIx) : (p.tripOne i).listsOk := by
  have hall := p.allot_tripOne i
  cases hs : (p.allot i).state with
  | free => simpa [Plant.tripOne, hs] using hp
  | tripped => simpa [Plant.tripOne, hs] using hp
  | waiting =>
    simp only [Allotment.trippedFrom, hs] at hall
    exact hp.update hall (by simp [Plant.tripOne, hs]) (.inl rfl)
      (.leaves (by simp [Plant.tripOne, hs, Plant.leaveQueue]) rfl) (.stays (by simp [Plant.tripOne, hs]) (by rw [hs]; rfl))
      (.stays (by simp [Plant.tripOne, hs]) (by simp [hs]) (by simp))
  | staged =>
    simp only [Allotment.trippedFrom, hs] at hall
    exact hp.update hall (by simp [Plant.tripOne, hs]) (.inl rfl)
      (.stays (by simp [Plant.tripOne, hs]) (by rw [hs]; rfl) (.inl rfl)) (.stays (by simp [Plant.tripOne, hs]) (by rw [hs]; rfl))
      (.empties (by simp [Plant.tripOne, hs]) hs (by simp))
  | rising => simpa only [Plant.tripOne, hs] using Plant.cutTripped_listsOk hp (by rw [hs]; rfl)
  | running => simpa only [Plant.tripOne, hs] using Plant.cutTripped_listsOk hp (by rw [hs]; rfl)
  | reduced => simpa only [Plant.tripOne, hs] using Plant.cutTripped_listsOk hp (by rw [hs]; rfl)
  | falling o =>
    have hg : (p.allot i).state.granted = true := by rw [hs]; rfl
    cases o with
    | free => simpa only [Plant.tripOne, hs] using Plant.cutFreed_listsOk hp hg
    | waiting => simpa only [Plant.tripOne, hs] using Plant.cutTripped_listsOk hp hg
    | reduced => simpa only [Plant.tripOne, hs] using Plant.cutTripped_listsOk hp hg
    | running => simpa only [Plant.tripOne, hs] using Plant.cutTripped_listsOk hp hg

/-- The hard cut of a granted allotment (R38). -/
theorem Plant.hardCutOne_listsOk {p : Plant} (hp : p.listsOk) {i : SlotIx} (hg : (p.allot i).state.granted = true) :
    (p.hardCutOne i).listsOk := by
  have hall := p.allot_hardCutOne i
  by_cases hs : (p.allot i).state = .falling .free
  · simpa only [Plant.hardCutOne, hs, if_true] using Plant.cutFreed_listsOk hp hg
  · simp only [if_neg hs] at hall
    refine hp.update hall (by simp [Plant.hardCutOne, hs, Plant.cutAllotment]) (.inl rfl) (.ofFront
      (r := ((p.cutAllotment i).markChanged .other i).setState i .waiting) (by simp [Plant.hardCutOne, hs])
      (by simp [Plant.hardCutOne, hs]) (by simp [Plant.cutAllotment, Plant.leaveQueue]) (fun j => ?_) ?_
      (by rw [hall, if_pos rfl]) rfl)
      (.leaves (by simp [Plant.hardCutOne, hs, Plant.cutAllotment, Plant.leaveGrants]) rfl)
      (.stays (by simp [Plant.hardCutOne, hs, Plant.cutAllotment]) (AllotState.ne_staged_of_granted hg)
        (by simp [Allotment.cutTo]))
    · rw [hall, Plant.allot_setState, Plant.allot_markChanged, Plant.allot_markChanged, Plant.allot_cutAllotment,
        Plant.allot_cutAllotment]
      by_cases h : j = i <;> simp [h, Allotment.cutTo]
    · simp [Plant.handleOf, hall, Plant.allot_setState, Plant.allot_cutAllotment,
        Allotment.cutTo]

/-- An event that keeps the state, the class and the generation of every record and moves no list. -/
theorem Plant.listsOk.update_same {p q : Plant} (hp : p.listsOk) {i : SlotIx} {a : Allotment}
    (ha : ∀ j, q.allot j = if j = i then a else p.allot j) (hst : a.state = (p.allot i).state)
    (hc : a.cls = (p.allot i).cls) (hg : a.generation = (p.allot i).generation)
    (hl : q.eng.levels = p.eng.levels) (hq : q.eng.queue = p.eng.queue) (hgr : q.eng.grants = p.eng.grants)
    (hs : q.eng.stage = p.eng.stage) : q.listsOk :=
  hp.update ha hl (.inl hg) (.stays hq (by rw [hst]) (.inl hc)) (.stays hgr (by rw [hst])) (.keeps hs hst)

theorem Plant.reshapeAccepted_listsOk {p : Plant} (hp : p.listsOk) {i : SlotIx}
    (hs : (p.allot i).state = .running ∨ (p.allot i).state = .waiting) (ds : List Nat) :
    (p.reshapeAccepted i ds).listsOk := by
  have hall := (p.allot_reshapeAccepted i · ds)
  by_cases hw : (p.allot i).state = .waiting
  · simp only [Plant.reshapedRecord, if_pos hw] at hall
    exact hp.update_same hall rfl rfl rfl (by simp [Plant.reshapeAccepted, hw, Plant.storeReshape])
      (by simp [Plant.reshapeAccepted, hw, Plant.storeReshape]) (by simp [Plant.reshapeAccepted, hw, Plant.storeReshape])
      (by simp [Plant.reshapeAccepted, hw, Plant.storeReshape])
  · have hrun := hs.resolve_right hw
    by_cases hd : (p.allot i).terms.map (·.requested) = ds
    · simpa only [Plant.reshapeAccepted, hrun, hd, if_true, reduceCtorEq, if_false] using hp
    · simp only [Plant.reshapedRecord, if_neg hw, if_neg hd] at hall
      obtain ⟨hx, hy, hz⟩ := p.transitionState_lists (p.reshaped (p.allot i) ds).terms (·.requested) (some .running)
      have heq : p.reshapeAccepted i ds = (p.storeReshape i ds).startTransition i (·.requested) (some .running) := by
        simp only [Plant.reshapeAccepted, if_neg hw, if_neg hd]
      exact hp.update hall (by rw [heq]; simp [Plant.storeReshape]) (.inl rfl)
        (.stays (by rw [heq]; simp [Plant.storeReshape]) (by rw [hrun]; exact hx) (.inl rfl))
        (.stays (by rw [heq]; simp [Plant.storeReshape]) (by rw [hrun]; exact hy))
        (.stays (by rw [heq]; simp [Plant.storeReshape]) (by simp [hrun]) hz)

theorem Plant.createAllotment_listsOk {p : Plant} (hp : p.listsOk) {i : SlotIx} (hs : (p.allot i).state = .free)
    (c : ClientIx) (payload : List Byte) : (p.createAllotment c payload i).listsOk := by
  have hall := p.allot_createAllotment c payload i
  obtain ⟨hqu, hgr, hst⟩ := AllotState.lists_of_free hs
  have hrec : ∀ j, (((p.setAllot i (p.claimRecord c payload (p.allot i))).setCharge i 0).allot j)
      = if j = i then { p.claimRecord c payload (p.allot i) with charge := 0 } else p.allot j := fun j => by
    rw [Plant.allot_setCharge]
    by_cases h : j = i
    · simp [h]
    · simp [h, Plant.allot_setAllot_ne]
  let r := ((((p.setAllot i (p.claimRecord c payload (p.allot i))).setCharge i 0).bindTerms (claimTerms payload)
    (some (((p.setAllot i (p.claimRecord c payload (p.allot i))).setCharge i 0).handleOf i))).adjustClaimed (some c)
      (p.requestCostOf (claimTerms payload)) 0)
  have hr : ∀ j, r.allot j = if j = i then { p.claimRecord c payload (p.allot i) with charge := 0 } else p.allot j :=
    hrec
  refine hp.update hall rfl (.inl rfl) (.ofBack (r := r) rfl rfl (hp.1.1.filter_eq hqu).symm
    (fun j => by rw [hall, hr]) (by simp only [Plant.handleOf, hall, hr]) (by rw [hall, if_pos rfl]) rfl)
    (.stays rfl (by rw [hgr]; rfl)) (.stays rfl hst (by simp [Plant.claimRecord]))

theorem Plant.Act.listsOk {eff : Nat} {p q : Plant} (h : Plant.Act eff p q) (hp : p.listsOk) : q.listsOk := by
  cases h with
  | pass h => exact h.listsOk hp
  | resolve h hs => exact Plant.resolveSlot_listsOk hp (hp.staged hs) eff
  | unflag i _ => exact hp.update_same (p.allot_setAllot i · _) rfl rfl rfl rfl rfl rfl rfl
  | dropReport n => exact hp.congr (fun _ => rfl) rfl rfl rfl rfl
  | takeReport n r h _ _ _ => exact hp.update_same (Plant.allot_setAllot _ h.slot · _) rfl rfl rfl rfl rfl rfl rfl
  | endRise i hs _ => exact Plant.endFall_listsOk (o := .running) hp (by rw [hs]; rfl)
  | endFall i o hs _ => exact Plant.endFall_listsOk hp (by rw [hs]; rfl)
  | release o retires i => exact Plant.releaseOne_listsOk hp o retires i
  | latch n => exact hp.congr (fun _ => rfl) rfl rfl rfl rfl
  | trip n h _ _ =>
    exact Plant.tripOne_listsOk (p := p.latch n) (hp.congr (fun _ => rfl) rfl rfl rfl rfl) h.slot
  | runTick i r _ => exact hp.update_same (p.allot_setAllot i · _) rfl rfl rfl rfl rfl rfl rfl
  | expire i hs =>
    obtain ⟨hx, hy, hz⟩ := p.transitionState_lists (p.allot i).terms (fun _ => 0) (some .free)
    have hg : (p.allot i).state.granted = true := AllotState.granted_of_runs hs
    exact hp.update (p.allot_expired i) (by simp [Plant.expired, Plant.fallToFree]) (.inl rfl)
      (.leaves (by simp [Plant.expired, Plant.fallToFree, Plant.leaveQueue]) hx)
      (.stays (by simp [Plant.expired, Plant.fallToFree]) (by rw [hg]; exact hy))
      (.stays (by simp [Plant.expired, Plant.fallToFree]) (AllotState.ne_staged_of_granted hg) hz)
  | reshape i ds _ _ hs _ => exact Plant.reshapeAccepted_listsOk hp hs ds
  | clearLatch n => exact hp.congr (fun _ => rfl) rfl rfl rfl rfl
  | retry o i hs _ =>
    have hall := p.allot_requeued o i
    have hr : ∀ j, ((p.setAllot i { (p.allot i).halted with state := .waiting }).setCharge i 0).allot j =
        if j = i then { (p.allot i).halted with state := .waiting, charge := 0 } else p.allot j := fun j => by
      rw [Plant.allot_setCharge]
      by_cases h : j = i
      · simp [h]
      · simp [h, Plant.allot_setAllot_ne]
    refine hp.update hall (by simp [Plant.requeued]) (.inl rfl) (.ofBack
      (r := (p.setAllot i { (p.allot i).halted with state := .waiting }).setCharge i 0) (by simp [Plant.requeued])
      (by simp [Plant.requeued]) (hp.1.1.filter_eq (by rw [hs]; rfl)).symm (fun j => ?_) ?_ (by rw [hall, if_pos rfl]) rfl)
      (.stays (by simp [Plant.requeued]) (by rw [hs]; rfl))
      (.stays (by simp [Plant.requeued]) (by simp [hs]) (by simp [Allotment.marked]))
    · rw [hall, hr]; split <;> rfl
    · simp only [Plant.handleOf, hall, hr]; rfl
  | client c x _ => exact hp.congr (fun _ => rfl) rfl rfl rfl rfl
  | levels l => exact hp.relevelled l
  | output o _ => exact hp.congr (fun _ => rfl) rfl rfl rfl rfl

end Sys2Proof.Machine
end

section
/-! The duties the output stage drives for the records (R9, R12, R33, R34): what one act does to the record it acts on and
to its channels. -/

namespace Sys2Proof.Machine

/-! ### Costs -/

theorem costAt_mono (r : Nat) {d e : Nat} (h : d ≤ e) : costAt r d ≤ costAt r e :=
  Nat.div_le_div_right (Nat.add_le_add_right (Nat.mul_le_mul_left r h) 255)

@[simp] theorem costAt_zero (r : Nat) : costAt r 0 = 0 := by simp [costAt, ceilDiv256]

/-- Costs follow the duties, term by term. -/
theorem costs_le {ts : List Term} {r d e : Term → Nat} (h : ∀ t ∈ ts, d t ≤ e t) :
    (ts.map fun t => costAt (r t) (d t)).sum ≤ (ts.map fun t => costAt (r t) (e t)).sum :=
  List.sum_le_sum fun t ht => costAt_mono (r t) (h t ht)

theorem costs_congr {ts : List Term} {r d e : Term → Nat} (h : ∀ t ∈ ts, d t = e t) :
    (ts.map fun t => costAt (r t) (d t)).sum = (ts.map fun t => costAt (r t) (e t)).sum := by
  rw [List.map_congr_left fun t ht => by rw [h t ht]]

/-- A floor of at most 16 sixteenths of a duty of at least 1 is at most the duty (R9). -/
theorem floorDuty_le {f d : Nat} (hf : f ≤ 15) (hd : 1 ≤ d) : floorDuty f d ≤ d :=
  max_le hd (Nat.div_le_of_le_mul (by rw [Nat.mul_comm]; exact Nat.mul_le_mul_right d (hf.trans (by decide))))

/-! ### A transition command (R105) -/

/-- What one channel of a transition command becomes, when it is not FAULTED. -/
theorem OutputStage.takeCommand_self (o : OutputStage) {n : ChannelIx} (d : Nat) (id : BitVec 16)
    (hf : o.channels[n].state ≠ .faulted) :
    let c := (o.takeCommand n d id).channels[n]
    c.applied = o.channels[n].applied ∧ c.target = d ∧ c.rating = o.channels[n].rating ∧ c.state ≠ .faulted
      ∧ (o.channels[n].shaped → c.shaped) := by
  unfold OutputStage.takeCommand
  simp only [if_neg hf]
  split
  next hlt =>
    simp only [OutputStage.channels_setChan, if_true]
    refine ⟨trivial, trivial, trivial, by simp, fun h => ?_⟩
    obtain ⟨-, hoff, hrise, hon, hfall, -⟩ := h
    refine ⟨by simp, by simp, fun _ => ⟨hlt.le, ?_⟩, by simp, by simp, by simp⟩
    split
    next => rfl
    next hne =>
      match hs : o.channels[n].state with
      | .off => exact absurd hs hne
      | .rise => exact (hrise hs).2
      | .on => exact (hon hs).2.2
      | .fall => exact (hfall hs).2
      | .faulted => exact absurd hs hf
  split
  next hlt =>
    simp only [OutputStage.channels_setChan, if_true]
    refine ⟨trivial, trivial, trivial, by simp, fun h => ?_⟩
    obtain ⟨-, hoff, hrise, hon, hfall, -⟩ := h
    refine ⟨by simp, by simp, by simp, by simp, fun _ => ⟨hlt.le, ?_⟩, by simp⟩
    match hs : o.channels[n].state with
    | .off => rw [(hoff hs).1] at hlt; exact absurd hlt (by simp)
    | .rise => exact (hrise hs).2
    | .on => exact (hon hs).2.2
    | .fall => exact (hfall hs).2
    | .faulted => exact absurd hs hf
  next h1 h2 =>
    have heq : o.channels[n].applied = d := by omega
    simp only [OutputStage.channels_setChan, if_true]
    refine ⟨trivial, trivial, trivial, hf, fun h => ?_⟩
    obtain ⟨-, hoff, hrise, hon, hfall, -⟩ := h
    exact ⟨fun _ => heq, fun hs => ⟨(hoff hs).1, by rw [← heq, (hoff hs).1], (hoff hs).2.2⟩,
      fun hs => ⟨heq.le, (hrise hs).2⟩, fun hs => ⟨heq, (hon hs).2⟩, fun hs => ⟨heq.ge, (hfall hs).2⟩,
      fun hs => absurd hs hf⟩

/-- What every channel of a transition command becomes, when none is named twice and none is FAULTED. -/
theorem OutputStage.command_self {terms : List Term} {d : Term → Nat} {id : BitVec 16} (o : OutputStage)
    (hn : (terms.map Term.channel).Nodup) (hf : ∀ t ∈ terms, o.channels[t.channel].state ≠ .faulted) {t : Term}
    (ht : t ∈ terms) :
    let c := (o.command terms d id).channels[t.channel]
    c.applied = o.channels[t.channel].applied ∧ c.target = d t ∧ c.rating = o.channels[t.channel].rating
      ∧ c.state ≠ .faulted ∧ (o.channels[t.channel].shaped → c.shaped) := by
  induction terms generalizing o with
  | nil => cases ht
  | cons u r ih =>
    rw [List.map_cons, List.nodup_cons] at hn
    obtain ⟨hu, hr⟩ := hn
    have hcons : o.command (u :: r) d id = (o.takeCommand u.channel (d u) id).command r d id := rfl
    rw [hcons]
    rcases List.mem_cons.mp ht with rfl | ht'
    · rw [OutputStage.channels_command _ _ _ _ _ hu]
      exact o.takeCommand_self _ _ (hf t List.mem_cons_self)
    · have hne {v : Term} (hv : v ∈ r) : v.channel ≠ u.channel := fun h => hu (h ▸ List.mem_map_of_mem hv)
      have hsame {v : Term} (hv : v ∈ r) := o.channels_takeCommand_ne (d u) id (hne hv)
      have := ih (o.takeCommand u.channel (d u) id) hr (fun v hv => by
        rw [hsame hv]; exact hf v (List.mem_cons_of_mem _ hv)) ht'
      rwa [hsame ht'] at this

/-- A transition command discards the reports of its channels and keeps the others (R72). -/
theorem OutputStage.mem_reports_command {terms : List Term} {d : Term → Nat} {id : BitVec 16} {o : OutputStage}
    (hn : (terms.map Term.channel).Nodup) (hf : ∀ t ∈ terms, o.channels[t.channel].state ≠ .faulted) {x : Report}
    (hx : x ∈ (o.command terms d id).reports) : x ∈ o.reports ∧ x.channel ∉ terms.map Term.channel := by
  induction terms generalizing o with
  | nil => exact ⟨hx, by simp⟩
  | cons u r ih =>
    rw [List.map_cons, List.nodup_cons] at hn
    obtain ⟨hu, hr⟩ := hn
    obtain ⟨hx', hxr⟩ := ih hr (o := o.takeCommand u.channel (d u) id) (fun v hv => by
      have hne : v.channel ≠ u.channel := fun h => hu (h ▸ List.mem_map_of_mem hv)
      rw [o.channels_takeCommand_ne _ _ hne]
      exact hf v (List.mem_cons_of_mem _ hv)) hx
    rw [OutputStage.reports_takeCommand, if_neg (hf u List.mem_cons_self), List.mem_filter] at hx'
    obtain ⟨hxo, hxu⟩ := hx'
    exact ⟨hxo, by simpa using ⟨of_decide_eq_true hxu, by simpa using hxr⟩⟩

/-! ### A cut and a latch (R109, R115) -/

/-- A channel that has been cut stands at 0. -/
theorem Channel.cut_zero {c : Channel} (h : c.shaped) :
    c.cut.applied = 0 ∧ c.cut.target = 0 ∧ c.cut.rating = c.rating ∧ (c.cut.state = .faulted ↔ c.state = .faulted) := by
  obtain ⟨-, hoff, -, -, -, hfault⟩ := h
  match hs : c.state with
  | .off => simp [Channel.cut, hs, hoff hs]
  | .faulted => simp [Channel.cut, hs, hfault hs]
  | .rise => simp [Channel.cut, hs, Channel.cleared]
  | .on => simp [Channel.cut, hs, Channel.cleared]
  | .fall => simp [Channel.cut, hs, Channel.cleared]

end Sys2Proof.Machine
end

section
/-! Records, duties and channels in agreement (R8, R9, R12, R33, R34, R72): what an event of one slot has to show to keep
them so. -/

namespace Sys2Proof.Machine

/-! ### What is kept -/

/-- The channels a record names. -/
def Allotment.channels (a : Allotment) : List ChannelIx := a.terms.map Term.channel

/-- What `Plant.recordSound` says of a record, at the ratings of `p`. -/
def Plant.recordOk (p : Plant) (a : Allotment) : Prop :=
  a.channels.Nodup
  ∧ (∀ t ∈ a.terms, 1 ≤ t.requested ∧ t.target = a.targetOf t)
  ∧ a.requestCost = p.requestCostOf a.terms
  ∧ (∀ f ∈ a.floor, 1 ≤ f.fraction ∧ f.fraction ≤ 15 ∧ f.cost = p.floorCostOf a.terms f.fraction)
  ∧ (a.state = .reduced ∨ a.state = .falling .reduced → a.floor.isSome = true)

/-- What `Plant.dutiesSound` says of a record, at the channels of `p`. -/
def Plant.dutiesOk (p : Plant) (a : Allotment) : Prop :=
  (∀ t ∈ a.terms, (p.chan t.channel).target = t.target ∧ ((p.chan t.channel).state = .faulted → a.state = .tripped)
    ∧ ((p.chan t.channel).applied = t.target ∨ (a.state.moving = true ∧ t.channel ∈ a.unsettled)))
  ∧ (a.state.moving = true → (a.terms.map fun t =>
      costAt (p.chan t.channel).rating (max (p.chan t.channel).applied t.target)).sum ≤ a.charge)
  ∧ (a.terms.map fun t => costAt (p.chan t.channel).rating (p.chan t.channel).applied).sum ≤ a.charge

theorem Plant.recordSound_iff {p : Plant} {i : SlotIx} : p.recordSound i ↔ p.recordOk (p.allot i) := Iff.rfl

theorem Plant.dutiesSound_iff {p : Plant} {i : SlotIx} : p.dutiesSound i ↔ p.dutiesOk (p.allot i) := Iff.rfl

/-- The records, the channels and the reports agree, and every charge is that of its record's state. -/
structure Plant.Driven (p : Plant) : Prop where
  record : ∀ i, p.recordOk (p.allot i)
  duties : ∀ i, p.dutiesOk (p.allot i)
  fits : ∀ i, (p.allot i).chargeFits
  rest : p.unboundAtRest
  shaped : ∀ n, (p.chan n).shaped
  honest : p.reportsHonest

/-- All that `State.budgetSound` says of the plant but the bound on the committed charge. -/
structure Plant.Sound (p : Plant) : Prop where
  accounts : p.accountsAgree
  binding : p.bindingExact
  lists : p.listsOk
  driven : p.Driven

/-! ### Rules for the two readings of a record -/

section Readings
variable {p q : Plant} {a : Allotment}

/-- A record is read at the ratings only. -/
theorem Plant.recordOk_congr (h : ∀ n, (q.chan n).rating = (p.chan n).rating) : q.recordOk a ↔ p.recordOk a := by
  simp only [Plant.recordOk, Plant.requestCostOf, Plant.floorCostOf, Plant.costOf, h]

/-- The duties are read at the channels the record names only. -/
theorem Plant.dutiesOk_congr (h : ∀ n ∈ a.channels, q.chan n = p.chan n) : q.dutiesOk a ↔ p.dutiesOk a := by
  have ht : ∀ t ∈ a.terms, q.chan t.channel = p.chan t.channel := fun t ht => h _ (List.mem_map_of_mem ht)
  have hsum (f : Channel → Term → Nat) : (a.terms.map fun t => f (q.chan t.channel) t)
      = a.terms.map fun t => f (p.chan t.channel) t := List.map_congr_left fun t hm => by rw [ht t hm]
  unfold Plant.dutiesOk
  rw [hsum fun c t => costAt c.rating (max c.applied t.target), hsum fun c _ => costAt c.rating c.applied]
  exact and_congr_left' (forall₂_congr fun t hm => by rw [ht t hm])

/-- The channels of a record whose every target is 0 and which is in no transition, standing at 0 (R33). -/
theorem Plant.dutiesOk_idle (hz : ∀ t ∈ a.terms, t.target = 0) (hm : a.state.moving = false)
    (hc : ∀ n ∈ a.channels, (p.chan n).applied = 0 ∧ (p.chan n).target = 0
      ∧ ((p.chan n).state = .faulted → a.state = .tripped)) : p.dutiesOk a := by
  have hc' : ∀ t ∈ a.terms, _ := fun t ht => hc t.channel (List.mem_map_of_mem ht)
  refine ⟨fun t ht => ?_, by simp [hm], ?_⟩
  · obtain ⟨h1, h2, h3⟩ := hc' t ht
    exact ⟨by rw [h2, hz t ht], h3, .inl (by rw [h1, hz t ht])⟩
  · rw [costs_congr (e := fun _ => 0) fun t ht => (hc' t ht).1]
    simp

/-- The channels of a settled record stand at its targets, which its charge covers (R33). -/
theorem Plant.dutiesOk_settled {d : Term → Nat} (hm : a.state.moving = false)
    (hc : ∀ t ∈ a.terms, t.target = d t ∧ (p.chan t.channel).target = t.target
      ∧ (p.chan t.channel).applied = t.target ∧ (p.chan t.channel).state ≠ .faulted)
    (hcost : p.costOf a.terms d ≤ a.charge) : p.dutiesOk a := by
  refine ⟨fun t ht => ?_, by simp [hm], ?_⟩
  · obtain ⟨-, h2, h3, h4⟩ := hc t ht
    exact ⟨h2, fun h => absurd h h4, .inl h3⟩
  · rwa [costs_congr (e := d) fun t ht => by rw [(hc t ht).2.2.1, (hc t ht).1]]

/-- What is read of the duties in any state: where nothing is unsettled every channel stands at its target. -/
theorem Plant.dutiesOk.applied (h : p.dutiesOk a) {t : Term} (ht : t ∈ a.terms)
    (hu : a.state.moving = false ∨ t.channel ∉ a.unsettled) : (p.chan t.channel).applied = t.target := by
  rcases (h.1 t ht).2.2 with h | ⟨h1, h2⟩
  · exact h
  · rcases hu with hu | hu
    · simp [hu] at h1
    · exact absurd h2 hu

theorem Plant.dutiesOk.not_faulted (h : p.dutiesOk a) (hs : a.state ≠ .tripped) {t : Term} (ht : t ∈ a.terms) :
    (p.chan t.channel).state ≠ .faulted := fun hf => hs ((h.1 t ht).2.1 hf)

/-- The charge covers the targets. -/
theorem Plant.dutiesOk.targets_le (h : p.dutiesOk a) {d : Term → Nat} (hd : ∀ t ∈ a.terms, t.target = d t) :
    p.costOf a.terms d ≤ a.charge := by
  by_cases hm : a.state.moving = true
  · exact (costs_le (d := d) fun t ht => (hd t ht).symm.le.trans (le_max_right _ _)).trans (h.2.1 hm)
  · refine (costs_le (d := d) fun t ht => ?_).trans h.2.2
    rw [h.applied ht (.inl (by simpa using hm)), hd t ht]

end Readings

/-! ### An event of one slot -/

/-- What an event that makes the record of slot `i` into `a`, at the effective ceiling `eff`, has to show: it touches the
channels of that record only, and leaves them in agreement with `a`. -/
structure Plant.Change (eff : Nat) (p q : Plant) (i : SlotIx) (a : Allotment) : Prop where
  allots : ∀ j, q.allot j = if j = i then a else p.allot j
  others : ∀ n, n ∉ (p.allot i).channels → q.chan n = p.chan n
  ratings : ∀ n, (q.chan n).rating = (p.chan n).rating
  shaped : ∀ n ∈ (p.allot i).channels, (q.chan n).shaped
  reports : ∀ x ∈ q.out.reports, x ∈ p.out.reports
  record : q.recordOk a
  duties : q.dutiesOk a
  fits : a.chargeFits
  rest : (a.state ≠ .free ∧ a.channels = (p.allot i).channels)
    ∨ ∀ n ∈ (p.allot i).channels, (q.chan n).applied = 0 ∧ (q.chan n).target = 0
  honest : ∀ x ∈ q.out.reports, x.channel ∈ a.channels → a.state.moving = true → x.channel ∈ a.unsettled →
    x.command = some a.commandId → (q.chan x.channel).applied = (q.chan x.channel).target
  charge : a.charge ≤ (p.allot i).charge ∨ p.eng.committed + a.charge ≤ eff + (p.allot i).charge

/-- A slot that names a channel is not FREE. -/
theorem Plant.freeRecordsClear.ne_free {p : Plant} (h : p.freeRecordsClear) {i : SlotIx} {n : ChannelIx}
    (hn : n ∈ (p.allot i).channels) : (p.allot i).state ≠ .free := fun hf => by
  simp [Allotment.channels, (h.values hf).1] at hn

/-- A channel that a slot names is bound to it (R10). -/
theorem Plant.Sound.bound {p : Plant} (h : p.Sound) {i : SlotIx} {n : ChannelIx} (hn : n ∈ (p.allot i).channels) :
    p.eng.binding[n] = some (p.handleOf i) := h.binding.1 i (h.accounts.1.ne_free hn) n hn

/-- No two slots name the same channel (R10). -/
theorem Plant.Sound.disjoint {p : Plant} (h : p.Sound) {i j : SlotIx} {n : ChannelIx}
    (hi : n ∈ (p.allot i).channels) (hj : n ∈ (p.allot j).channels) : i = j :=
  congrArg Handle.slot (Option.some.inj ((h.bound hi).symm.trans (h.bound hj)))

/-- An event of one slot keeps the agreement. -/
theorem Plant.Change.driven {eff : Nat} {p q : Plant} {i : SlotIx} {a : Allotment} (h : p.Change eff q i a)
    (hp : p.Sound) (hq : q.bindingExact) : q.Driven := by
  have hother {j : SlotIx} (hj : j ≠ i) {n : ChannelIx} (hn : n ∈ (p.allot j).channels) : q.chan n = p.chan n :=
    h.others n fun hi => hj (hp.disjoint hn hi)
  have hslot {P : Allotment → Prop} (hi : P a) (hne : ∀ j, j ≠ i → P (p.allot j)) (j : SlotIx) : P (q.allot j) := by
    rw [h.allots]
    split
    next => exact hi
    next hj => exact hne j hj
  refine ⟨hslot h.record fun j _ => (Plant.recordOk_congr h.ratings).mpr (hp.driven.record j),
    hslot h.duties fun j hj => (Plant.dutiesOk_congr fun n hn => hother hj hn).mpr (hp.driven.duties j),
    hslot h.fits fun j _ => hp.driven.fits j, fun n hn => ?rest, fun n => ?shaped, fun x hx j hb hm hu hc => ?honest⟩
  case rest =>
    by_cases hi : n ∈ (p.allot i).channels
    · rcases h.rest with ⟨hs, hch⟩ | hz
      · have hbound := hq.1 i (by rw [h.allots, if_pos rfl]; exact hs) n (by
          change n ∈ (q.allot i).channels
          rw [h.allots, if_pos rfl, hch]; exact hi)
        rw [hbound] at hn; cases hn
      · exact hz n hi
    · rw [h.others n hi]
      refine hp.driven.rest n ?_
      cases hb : p.eng.binding[n] with
      | none => rfl
      | some e =>
        obtain ⟨⟨hcs, -⟩, hnames⟩ := hp.binding.2 n e hb
        have hne : e.slot ≠ i := by rintro rfl; exact hi hnames
        have hbound := hq.1 e.slot (by rwa [h.allots, if_neg hne]) n (by
          unfold Plant.names; rwa [h.allots, if_neg hne])
        rw [hbound] at hn; cases hn
  case shaped =>
    by_cases hi : n ∈ (p.allot i).channels
    · exact h.shaped n hi
    · rw [h.others n hi]; exact hp.driven.shaped n
  case honest =>
    obtain ⟨-, hnames⟩ := hq.2 _ _ hb
    change x.channel ∈ (q.allot j).channels at hnames
    by_cases hj : j = i
    · subst hj
      rw [h.allots, if_pos rfl] at hm hu hc hnames
      exact h.honest x hx hnames hm hu hc
    · rw [h.allots, if_neg hj] at hm hu hc hnames
      have hbp := hp.binding.1 j (hp.accounts.1.ne_free hnames) _ hnames
      rw [hother hj hnames]
      exact hp.driven.honest x (h.reports x hx) j hbp hm hu hc

/-- An event of one slot that fits keeps the committed charge within the effective ceiling. -/
theorem Plant.Change.within {eff : Nat} {p q : Plant} {i : SlotIx} {a : Allotment} (h : p.Change eff q i a)
    (hp : p.accountsAgree) (hq : q.accountsAgree) (hc : p.eng.committed ≤ eff) : q.eng.committed ≤ eff := by
  have h1 := Plant.chargeSum_update h.allots
  have h2 := p.charge_le_sum i
  have h3 := hp.2
  have h4 := hq.2
  rcases h.charge with h5 | h5 <;> omega

/-! ### An event that does not touch the channels -/

/-- A record rewritten with the channels as they are. -/
theorem Plant.Change.ofStill {eff : Nat} {p q : Plant} {i : SlotIx} {a : Allotment} (hp : p.Sound)
    (ha : ∀ j, q.allot j = if j = i then a else p.allot j) (ho : ∀ n, q.chan n = p.chan n)
    (hr : ∀ x ∈ q.out.reports, x ∈ p.out.reports) (hrec : p.recordOk a) (hdut : p.dutiesOk a) (hfit : a.chargeFits)
    (hch : a.state ≠ .free ∧ a.channels = (p.allot i).channels)
    (hh : a.state.moving = true →
      (p.allot i).state.moving = true ∧ a.unsettled ⊆ (p.allot i).unsettled ∧ a.commandId = (p.allot i).commandId)
    (hc : a.charge ≤ (p.allot i).charge ∨ p.eng.committed + a.charge ≤ eff + (p.allot i).charge) :
    p.Change eff q i a where
  allots := ha
  others n _ := ho n
  ratings n := by rw [ho]
  shaped n _ := by rw [ho]; exact hp.driven.shaped n
  reports := hr
  record := (Plant.recordOk_congr fun n => by rw [ho]).mpr hrec
  duties := (Plant.dutiesOk_congr fun n _ => ho n).mpr hdut
  fits := hfit
  rest := .inl hch
  honest x hx hn hm hu hcm := by
    obtain ⟨hpm, hpu, hpc⟩ := hh hm
    rw [ho]
    exact hp.driven.honest x (hr x hx) i (hp.bound (hch.2 ▸ hn)) hpm (hpu hu) (by rw [hcm, hpc])
  charge := hc

/-- A slot freed whose channels stand at 0. -/
theorem Plant.Change.ofFreed {eff : Nat} {p q : Plant} {i : SlotIx}
    (ha : ∀ j, q.allot j = if j = i then (p.allot i).freed else p.allot j)
    (ho : ∀ n, n ∉ (p.allot i).channels → q.chan n = p.chan n) (hrt : ∀ n, (q.chan n).rating = (p.chan n).rating)
    (hz : ∀ n ∈ (p.allot i).channels, (q.chan n).shaped ∧ (q.chan n).applied = 0 ∧ (q.chan n).target = 0)
    (hr : ∀ x ∈ q.out.reports, x ∈ p.out.reports) : p.Change eff q i (p.allot i).freed where
  allots := ha
  others := ho
  ratings := hrt
  shaped n hn := (hz n hn).1
  reports := hr
  record := ⟨List.nodup_nil, by simp [Allotment.freed, Allotment.reset], rfl,
    by simp [Allotment.freed, Allotment.reset], by simp [Allotment.freed, Allotment.reset]⟩
  duties := Plant.dutiesOk_idle (by simp [Allotment.freed, Allotment.reset]) rfl
    (by simp [Allotment.channels, Allotment.freed, Allotment.reset])
  fits := ⟨fun _ => rfl, by simp [Allotment.freed, Allotment.reset], by simp [Allotment.freed, Allotment.reset]⟩
  rest := .inr fun n hn => (hz n hn).2
  honest x _ hn := by simp [Allotment.channels, Allotment.freed, Allotment.reset] at hn
  charge := .inl (Nat.zero_le _)

end Sys2Proof.Machine
end

section
/-! Transitions, cuts and output frames against the records (R33, R34, R69, R104, R106, R109). -/

namespace Sys2Proof.Machine

/-! ### What a record says whatever its state -/

/-- What `Plant.recordOk` says of the terms, the costs and the floor. -/
def Plant.termsOk (p : Plant) (a : Allotment) : Prop :=
  a.channels.Nodup ∧ (∀ t ∈ a.terms, 1 ≤ t.requested) ∧ a.requestCost = p.requestCostOf a.terms
  ∧ ∀ f ∈ a.floor, 1 ≤ f.fraction ∧ f.fraction ≤ 15 ∧ f.cost = p.floorCostOf a.terms f.fraction

theorem Plant.recordOk_iff {p : Plant} {a : Allotment} : p.recordOk a ↔
    p.termsOk a ∧ (∀ t ∈ a.terms, t.target = a.targetOf t)
      ∧ (a.state = .reduced ∨ a.state = .falling .reduced → a.floor.isSome = true) := by
  unfold Plant.recordOk Plant.termsOk
  simp only [forall_and]
  tauto

/-- New targets keep the terms in order. -/
theorem Plant.termsOk_retarget {p : Plant} {a : Allotment} (h : p.termsOk a) (d : Term → Nat) :
    p.termsOk { a with terms := a.terms.map fun t => { t with target := d t } } := by
  obtain ⟨hn, hr, hc, hf⟩ := h
  refine ⟨by simpa [Allotment.channels, Function.comp_def] using hn, fun t ht => ?_, ?_, fun f hff => ?_⟩
  · obtain ⟨u, hu, rfl⟩ := List.mem_map.mp ht
    exact hr u hu
  · simpa [Plant.requestCostOf, Plant.costOf, Function.comp_def] using hc
  · simpa [Plant.floorCostOf, Plant.costOf, Function.comp_def] using hf f hff

/-- The floor cost is the cost of the floor duties (R9). -/
theorem Plant.termsOk.floorCost {p : Plant} {a : Allotment} (h : p.termsOk a) (hf : a.floor.isSome = true) :
    a.floorCost = p.costOf a.terms a.floorDutyOf := by
  obtain ⟨f, hf⟩ := Option.isSome_iff_exists.mp hf
  unfold Allotment.floorCost Allotment.floorDutyOf
  rw [hf]
  exact (h.2.2.2 f (by rw [hf]; rfl)).2.2

/-- The floor duty of a term is at most its requested duty (R9). -/
theorem Plant.termsOk.floorDutyOf_le {p : Plant} {a : Allotment} (h : p.termsOk a) {t : Term} (ht : t ∈ a.terms) :
    a.floorDutyOf t ≤ t.requested := by
  unfold Allotment.floorDutyOf
  split
  next f hf => exact floorDuty_le (h.2.2.2 f (by rw [hf]; rfl)).2.1 (h.2.1 t ht)
  next => exact le_rfl

/-- No target is above the duty requested (R12). -/
theorem Plant.recordOk.target_le {p : Plant} {a : Allotment} (h : p.recordOk a) {t : Term} (ht : t ∈ a.terms) :
    t.target ≤ t.requested := by
  obtain ⟨hterms, htar, -⟩ := Plant.recordOk_iff.mp h
  rw [htar t ht]
  unfold Allotment.targetOf
  split
  case h_1 => exact le_rfl
  case h_2 => exact le_rfl
  case h_3 => exact le_rfl
  case h_4 => exact hterms.floorDutyOf_le ht
  case h_5 => exact hterms.floorDutyOf_le ht
  all_goals exact Nat.zero_le _

/-! ### Transition charges (R34) -/

section Charges
variable {p : Plant} {a : Allotment}

/-- Toward the requested duties of an allotment in no transition the transition charge is the request cost. -/
theorem Plant.transitionCharge_requested (hr : p.recordOk a) (hd : p.dutiesOk a) (hm : a.state.moving = false) :
    p.transitionCharge a.terms (·.requested) = a.requestCost := by
  rw [(Plant.recordOk_iff.mp hr).1.2.2.1]
  refine costs_congr fun t ht => max_eq_right ?_
  rw [hd.applied ht (.inl hm)]
  exact hr.target_le ht

/-- From the requested duties to the floor duties the transition charge is the request cost. -/
theorem Plant.transitionCharge_floor (hr : p.recordOk a) (hd : p.dutiesOk a) (hs : a.state = .running) :
    p.transitionCharge a.terms a.floorDutyOf = a.requestCost := by
  obtain ⟨hterms, htar, -⟩ := Plant.recordOk_iff.mp hr
  rw [hterms.2.2.1]
  refine costs_congr fun t ht => ?_
  rw [hd.applied ht (.inl (by rw [hs]; rfl)), htar t ht, Allotment.targetOf, hs]
  exact max_eq_left (hterms.floorDutyOf_le ht)

/-- A fall to 0 is charged what is driven, which the charge covers. -/
theorem Plant.transitionCharge_zero (hd : p.dutiesOk a) : p.transitionCharge a.terms (fun _ => 0) ≤ a.charge := by
  refine le_trans (le_of_eq (costs_congr fun t _ => ?_)) hd.2.2
  exact max_eq_left (Nat.zero_le _)

/-- A transition of which no target exceeds the duty applied is a fall (R69). -/
theorem Plant.transitionState_of_le {d : Term → Nat} {ts : List Term} (o : FallOutcome)
    (h : ∀ t ∈ ts, d t ≤ (p.chan t.channel).applied) : p.transitionState ts d (some o) = .falling o := by
  have : p.anyRising ts d = false := by
    simp only [Plant.anyRising, List.any_eq_false, decide_eq_true_eq]
    exact fun t ht => Nat.not_lt.mpr (h t ht)
  simp [Plant.transitionState, this]

end Charges

/-- A transition puts an allotment into transition (R69). -/
theorem Plant.transitionState_moving (p : Plant) (terms : List Term) (d : Term → Nat) (oc : Option FallOutcome) :
    (p.transitionState terms d oc).moving = true := by
  cases oc with
  | none => rfl
  | some o => simp only [Plant.transitionState]; split <;> rfl

theorem AllotState.ne_free_of_moving {st : AllotState} (h : st.moving = true) : st ≠ .free := by
  rintro rfl; cases h

/-- A state in transition fixes no charge (R33). -/
theorem Allotment.chargeFits_of_moving {a : Allotment} (h : a.state.moving = true) : a.chargeFits := by
  refine ⟨?_, fun hs => ?_, fun hs => ?_⟩
  · rintro (hs | hs | hs | hs) <;> rw [hs] at h <;> cases h
  · rw [hs] at h; cases h
  · rw [hs] at h; cases h

/-- The start of a transition of slot `i`: of the record `a0`, which names the channels of the slot, toward the targets `d`
(R69, R70). -/
theorem Plant.Change.ofCommand {eff : Nat} {p q : Plant} {i : SlotIx} {a0 a : Allotment} {d : Term → Nat}
    {oc : Option FallOutcome} {id : BitVec 16} (hp : p.Sound)
    (ha : ∀ j, q.allot j = if j = i then a else p.allot j)
    (hsame : a = { p.inMotion a0 d oc with run := a.run, changed := a.changed })
    (ho : q.out = p.out.command a0.terms d id) (h0 : a0.channels = (p.allot i).channels)
    (hs : (p.allot i).state ≠ .tripped) (hterms : p.termsOk a0)
    (htar : ∀ t ∈ a0.terms, (p.inMotion a0 d oc).targetOf t = d t)
    (hfl : a.state = .reduced ∨ a.state = .falling .reduced → a.floor.isSome = true)
    (hc : a.charge ≤ (p.allot i).charge ∨ p.eng.committed + a.charge ≤ eff + (p.allot i).charge) :
    p.Change eff q i a := by
  have hat : a.terms = a0.terms.map fun t => { t with target := d t } := by rw [hsame]; rfl
  have hst : a.state = p.transitionState a0.terms d oc := by rw [hsame]; rfl
  have hmoving : a.state.moving = true := by rw [hst]; exact p.transitionState_moving _ _ _
  have hu : a.unsettled = a0.channels := by rw [hsame]; rfl
  have hcharge : a.charge = p.transitionCharge a0.terms d := by rw [hsame]; rfl
  have hchan : a.channels = a0.channels := by simp [Allotment.channels, hat, Function.comp_def]
  have hn : (a0.terms.map Term.channel).Nodup := hterms.1
  have hnf : ∀ t ∈ a0.terms, p.out.channels[t.channel].state ≠ .faulted := fun t ht => by
    have hm : t.channel ∈ (p.allot i).channels := h0 ▸ List.mem_map_of_mem ht
    obtain ⟨u, hu, hut⟩ := List.mem_map.mp hm
    have := (hp.driven.duties i).not_faulted hs hu
    rwa [hut] at this
  have hself {t : Term} (ht : t ∈ a0.terms) := p.out.command_self (d := d) (id := id) hn hnf ht
  have hother : ∀ n, n ∉ (p.allot i).channels → q.chan n = p.chan n := fun n hni => by
    unfold Plant.chan
    rw [ho]
    exact p.out.channels_command _ _ _ _ (by rw [← h0] at hni; exact hni)
  have hrat : ∀ n, (q.chan n).rating = (p.chan n).rating := fun n => by
    by_cases hni : n ∈ (p.allot i).channels
    · rw [← h0] at hni
      obtain ⟨t, ht, rfl⟩ := List.mem_map.mp hni
      unfold Plant.chan
      rw [ho]; exact (hself ht).2.2.1
    · rw [hother n hni]
  have happ {t : Term} (ht : t ∈ a0.terms) : (q.chan t.channel).applied = (p.chan t.channel).applied := by
    unfold Plant.chan
    rw [ho]; exact (hself ht).1
  have hsum : (a.terms.map fun t =>
      costAt (q.chan t.channel).rating (max (q.chan t.channel).applied t.target)).sum = a.charge := by
    rw [hcharge, hat, List.map_map]
    refine congrArg List.sum (List.map_congr_left fun t ht => ?_)
    change costAt (q.chan t.channel).rating (max (q.chan t.channel).applied (d t)) = _
    rw [hrat, happ ht]
  refine ⟨ha, hother, hrat, fun n hni => ?shaped, fun x hx => ?reports, ?record, ⟨fun t ht => ?duties, ?cover, ?driven⟩,
    Allotment.chargeFits_of_moving hmoving, .inl ⟨AllotState.ne_free_of_moving hmoving, hchan.trans h0⟩,
    fun x hx hxc => ?honest, hc⟩
  case shaped =>
    rw [← h0] at hni
    obtain ⟨t, ht, rfl⟩ := List.mem_map.mp hni
    unfold Plant.chan
    rw [ho]
    exact (hself ht).2.2.2.2 (hp.driven.shaped t.channel)
  case reports => rw [ho] at hx; exact (OutputStage.mem_reports_command hn hnf hx).1
  case record =>
    refine (Plant.recordOk_congr hrat).mpr (Plant.recordOk_iff.mpr ⟨?_, fun t ht => ?_, hfl⟩)
    · rw [hsame]; exact Plant.termsOk_retarget hterms d
    · rw [hat] at ht
      obtain ⟨u, hu, rfl⟩ := List.mem_map.mp ht
      rw [hsame]
      exact (htar u hu).symm
  case duties =>
    rw [hat] at ht
    obtain ⟨u, hu', rfl⟩ := List.mem_map.mp ht
    have h := hself hu'
    refine ⟨?_, fun hf => ?_, .inr ⟨hmoving, ?_⟩⟩
    · change (q.chan u.channel).target = d u
      unfold Plant.chan; rw [ho]; exact h.2.1
    · change (q.chan u.channel).state = .faulted at hf
      unfold Plant.chan at hf; rw [ho] at hf; exact absurd hf h.2.2.2.1
    · rw [hu]; exact (List.mem_map_of_mem hu' : u.channel ∈ a0.channels)
  case cover => exact fun _ => hsum.le
  case driven => exact (costs_le fun t _ => le_max_left _ _).trans hsum.le
  case honest =>
    rw [ho] at hx
    have := (OutputStage.mem_reports_command hn hnf hx).2
    rw [hchan] at hxc
    exact absurd hxc this

/-! ### Records that hold no output (R33, R38, R119) -/

/-- A record without charge and with every target 0, in a state that holds no output, whose channels stand at 0: what a
cut leaves, a trip, a staging and the end of a fall to WAITING. -/
theorem Plant.Change.ofIdle {eff : Nat} {p q : Plant} {i : SlotIx} {a : Allotment}
    (ha : ∀ j, q.allot j = if j = i then a else p.allot j) (hch : a.channels = (p.allot i).channels)
    (hterms : p.termsOk a) (htar : ∀ t ∈ a.terms, t.target = 0) (hc : a.charge = 0)
    (ho : ∀ n, n ∉ (p.allot i).channels → q.chan n = p.chan n) (hrt : ∀ n, (q.chan n).rating = (p.chan n).rating)
    (hz : ∀ n ∈ (p.allot i).channels, (q.chan n).shaped ∧ (q.chan n).applied = 0 ∧ (q.chan n).target = 0)
    (hr : ∀ x ∈ q.out.reports, x ∈ p.out.reports)
    (hst : a.state = .tripped ∨ (a.state = .waiting ∨ a.state = .staged)
      ∧ ∀ n ∈ (p.allot i).channels, (q.chan n).state ≠ .faulted) : p.Change eff q i a := by
  have hidle : a.state = .tripped ∨ a.state = .waiting ∨ a.state = .staged := hst.imp_right And.left
  have hm : a.state.moving = false := by rcases hidle with h | h | h <;> rw [h] <;> rfl
  have hzero : ∀ t, a.targetOf t = 0 := by rcases hidle with h | h | h <;> simp [Allotment.targetOf, h]
  refine ⟨ha, ho, hrt, fun n hn => (hz n hn).1, hr, (Plant.recordOk_congr hrt).mpr (Plant.recordOk_iff.mpr ⟨hterms,
      fun t ht => by rw [htar t ht, hzero], ?_⟩), Plant.dutiesOk_idle htar hm fun n hn => ?_, ⟨fun _ => hc, ?_, ?_⟩,
    .inl ⟨?_, hch⟩, fun x _ _ hmv => ?_, .inl (by rw [hc]; exact Nat.zero_le _)⟩
  · rcases hidle with h | h | h <;> simp [h]
  · rw [hch] at hn
    obtain ⟨-, h1, h2⟩ := hz n hn
    exact ⟨h1, h2, fun hf => hst.resolve_right fun h => h.2 n hn hf⟩
  · rcases hidle with h | h | h <;> simp [h]
  · rcases hidle with h | h | h <;> simp [h]
  · rcases hidle with h | h | h <;> simp [h]
  · rw [hm] at hmv; cases hmv

/-- A record that holds no output drives none: its targets are 0, and its channels stand at 0. -/
theorem Plant.Driven.idle {p : Plant} (hp : p.Driven) {i : SlotIx} (hz : ∀ t, (p.allot i).targetOf t = 0)
    (hu : (p.allot i).state.moving = false ∨ (p.allot i).unsettled = []) :
    (∀ t ∈ (p.allot i).terms, t.target = 0)
      ∧ ∀ n ∈ (p.allot i).channels, (p.chan n).shaped ∧ (p.chan n).applied = 0 ∧ (p.chan n).target = 0 := by
  have htar : ∀ t ∈ (p.allot i).terms, t.target = 0 := fun t ht => by
    rw [(Plant.recordOk_iff.mp (hp.record i)).2.1 t ht, hz]
  refine ⟨htar, fun n hn => ?_⟩
  obtain ⟨t, ht, rfl⟩ := List.mem_map.mp hn
  refine ⟨hp.shaped _, ?_, by rw [((hp.duties i).1 t ht).1, htar t ht]⟩
  rw [(hp.duties i).applied ht (hu.imp_right fun h => by simp [h]), htar t ht]

/-! ### Channels that settle (R104, R106) -/

/-- What the channels and the reports can do while every record and every binding stays: channels go toward their targets,
and what is reported has settled. -/
structure Plant.Settling (p q : Plant) : Prop where
  allots : ∀ j, q.allot j = p.allot j
  binding : q.eng.binding = p.eng.binding
  committed : q.eng.committed = p.eng.committed
  ratings : ∀ n, (q.chan n).rating = (p.chan n).rating
  targets : ∀ n, (q.chan n).target = (p.chan n).target
  toward : ∀ n, max (q.chan n).applied (q.chan n).target ≤ max (p.chan n).applied (p.chan n).target
  stays : ∀ n, (p.chan n).applied = (p.chan n).target → (q.chan n).applied = (q.chan n).target
  faulted : ∀ n, (q.chan n).state = .faulted → (p.chan n).state = .faulted ∨ p.eng.binding[n] = none
  shaped : ∀ n, (q.chan n).shaped
  reports : ∀ x ∈ q.out.reports, x ∈ p.out.reports ∨ (q.chan x.channel).applied = (q.chan x.channel).target

theorem Plant.Settling.driven {p q : Plant} (h : p.Settling q) (hp : p.Sound) : q.Driven := by
  have hduties (i : SlotIx) : q.dutiesOk (p.allot i) := by
    have hd := hp.driven.duties i
    have happ {t : Term} (ht : t ∈ (p.allot i).terms) (ha : (p.chan t.channel).applied = t.target) :
        (q.chan t.channel).applied = t.target := by
      rw [h.stays t.channel (by rw [ha, (hd.1 t ht).1]), h.targets, (hd.1 t ht).1]
    have hcover : ∀ t ∈ (p.allot i).terms,
        max (q.chan t.channel).applied t.target ≤ max (p.chan t.channel).applied t.target := fun t ht => by
      have := h.toward t.channel
      rwa [h.targets, (hd.1 t ht).1] at this
    refine ⟨fun t ht => ?_, fun hm => ?_, ?_⟩
    · obtain ⟨h1, h2, h3⟩ := hd.1 t ht
      refine ⟨by rw [h.targets, h1], fun hf => ?_, h3.imp_left (happ ht)⟩
      rcases h.faulted _ hf with hf | hb
      · exact h2 hf
      · have hn : t.channel ∈ (p.allot i).channels := List.mem_map_of_mem ht
        rw [hp.binding.1 i (hp.accounts.1.ne_free hn) _ hn] at hb; cases hb
    · simp only [h.ratings]
      exact (costs_le hcover).trans (hd.2.1 hm)
    · simp only [h.ratings]
      by_cases hm : (p.allot i).state.moving = true
      · exact ((costs_le fun t _ => le_max_left _ t.target).trans (costs_le hcover)).trans (hd.2.1 hm)
      · refine le_trans (costs_le fun t ht => ?_) hd.2.2
        have ha := hd.applied ht (.inl (by simpa using hm))
        rw [happ ht ha, ha]
  refine ⟨fun i => by rw [h.allots]; exact (Plant.recordOk_congr h.ratings).mpr (hp.driven.record i),
    fun i => by rw [h.allots]; exact hduties i, fun i => by rw [h.allots]; exact hp.driven.fits i, fun n hn => ?_,
    h.shaped, fun x hx i hb hm hu hc => ?_⟩
  · rw [h.binding] at hn
    obtain ⟨h1, h2⟩ := hp.driven.rest n hn
    rw [h.stays n (by rw [h1, h2]), h.targets, h2]
    exact ⟨rfl, rfl⟩
  · rcases h.reports x hx with hx | hx
    · rw [h.allots] at hm hu hc
      rw [h.binding] at hb
      refine h.stays _ (hp.driven.honest x hx i ?_ hm hu hc)
      rw [hb]; simp [Plant.handleOf, h.allots]
    · exact hx

end Sys2Proof.Machine
end

section
/-! An output frame takes every channel toward its target, and a report is made of a channel that has settled (R99, R104,
R106, R107). -/

namespace Sys2Proof.Machine

/-- What frames do to the channels and the reports of an output stage. -/
structure OutputStage.Settles (o o' : OutputStage) : Prop where
  ratings : ∀ n : ChannelIx, o'.channels[n].rating = o.channels[n].rating
  targets : ∀ n : ChannelIx, o'.channels[n].target = o.channels[n].target
  toward : ∀ n : ChannelIx,
    max o'.channels[n].applied o'.channels[n].target ≤ max o.channels[n].applied o.channels[n].target
  stays : ∀ n : ChannelIx, o.channels[n].applied = o.channels[n].target →
    o'.channels[n].applied = o'.channels[n].target
  faulted : ∀ n : ChannelIx, o'.channels[n].state = .faulted → o.channels[n].state = .faulted
  shaped : (∀ n : ChannelIx, o.channels[n].shaped) → ∀ n : ChannelIx, o'.channels[n].shaped
  reports : (∀ n : ChannelIx, o.channels[n].shaped) → ∀ x ∈ o'.reports,
    x ∈ o.reports ∨ o'.channels[x.channel].applied = o'.channels[x.channel].target
  quiet : (∀ n : ChannelIx, o.channels[n].shaped) →
    (∀ n : ChannelIx, o.channels[n].state = .off ∨ o.channels[n].state = .faulted) →
    ∀ n : ChannelIx, o'.channels[n].state = .off ∨ o'.channels[n].state = .faulted

theorem OutputStage.Settles.refl (o : OutputStage) : o.Settles o :=
  ⟨fun _ => rfl, fun _ => rfl, fun _ => le_rfl, fun _ h => h, fun _ h => h, fun h => h, fun _ _ hx => .inl hx,
    fun _ h => h⟩

theorem OutputStage.Settles.trans {o o' o'' : OutputStage} (h : o.Settles o') (h' : o'.Settles o'') : o.Settles o'' where
  ratings n := (h'.ratings n).trans (h.ratings n)
  targets n := (h'.targets n).trans (h.targets n)
  toward n := (h'.toward n).trans (h.toward n)
  stays n hn := h'.stays n (h.stays n hn)
  faulted n hn := h.faulted n (h'.faulted n hn)
  shaped hs := h'.shaped (h.shaped hs)
  reports hs x hx := by
    rcases h'.reports (h.shaped hs) x hx with hx | hx
    · exact (h.reports hs x hx).imp_right (h'.stays _)
    · exact .inr hx
  quiet hs hq := h'.quiet (h.shaped hs) (h.quiet hs hq)

/-- Only the channels and the reports matter. -/
theorem OutputStage.Settles.congr {o o' o'' : OutputStage} (h : o.Settles o') (hc : o''.channels = o'.channels)
    (hr : o''.reports = o'.reports) : o.Settles o'' := by
  obtain ⟨h1, h2, h3, h4, h5, h6, h7, h8⟩ := h
  constructor <;> simp only [hc, hr] <;> assumption

/-! ### One channel at a frame start -/

/-- The pulse and the tail are no part of a channel's shape. -/
theorem Channel.newPulse_shaped {c : Channel} : c.newPulse.shaped ↔ c.shaped := by
  unfold Channel.newPulse
  split <;> rfl

theorem Channel.newPulse_frame (c : Channel) : c.newPulse.applied = c.applied ∧ c.newPulse.target = c.target
    ∧ c.newPulse.rating = c.rating ∧ c.newPulse.state = c.state := by
  unfold Channel.newPulse
  split <;> exact ⟨rfl, rfl, rfl, rfl⟩

/-- A step goes toward the target (R104). -/
theorem Channel.ramped_toward (c : Channel) : c.ramped.target = c.target ∧ c.ramped.rating = c.rating
    ∧ c.ramped.state = c.state ∧ max c.ramped.applied c.target ≤ max c.applied c.target
    ∧ (c.applied = c.target → c.ramped.applied = c.target) := by
  unfold Channel.ramped
  split
  case h_1 =>
    refine ⟨rfl, rfl, rfl, ?_, fun h => ?_⟩
    · change max (min (c.applied + c.step) c.target) c.target ≤ _; omega
    · change min (c.applied + c.step) c.target = _; omega
  case h_2 =>
    refine ⟨rfl, rfl, rfl, ?_, fun h => ?_⟩
    · change max (max (c.applied - c.step) c.target) c.target ≤ _; omega
    · change max (c.applied - c.step) c.target = _; omega
  all_goals exact ⟨rfl, rfl, rfl, le_rfl, fun h => h⟩

theorem Channel.ramped_shaped {c : Channel} (h : c.shaped) (hd : c.reportDue = false) : c.ramped.shaped := by
  obtain ⟨-, hoff, hrise, hon, hfall, hfault⟩ := h
  unfold Channel.ramped
  match hs : c.state with
  | .rise => exact ⟨by simp [hd], by simp, fun _ => ⟨min_le_right _ _, (hrise hs).2⟩, by simp, by simp, by simp⟩
  | .fall => exact ⟨by simp [hd], by simp, by simp, by simp, fun _ => ⟨le_max_right _ _, (hfall hs).2⟩, by simp⟩
  | .off => exact ⟨by simp [hd], hoff, hrise, hon, hfall, hfault⟩
  | .on => exact ⟨by simp [hd], hoff, hrise, hon, hfall, hfault⟩
  | .faulted => exact ⟨by simp [hd], hoff, hrise, hon, hfall, hfault⟩

/-- A channel settles at its target (R104, R106). -/
theorem Channel.settled_shaped {c : Channel} (h : c.shaped) (ha : c.applied = c.target) (hf : c.state ≠ .faulted) :
    c.settled.shaped := by
  obtain ⟨-, hoff, hrise, hon, hfall, -⟩ := h
  unfold Channel.settled
  split
  next hpos =>
    refine ⟨by simp, by simp, by simp, fun _ => ⟨ha, ha ▸ hpos, ?_⟩, by simp, by simp⟩
    match hs : c.state with
    | .off => rw [(hoff hs).2.1] at hpos; exact absurd hpos (by simp)
    | .rise => exact (hrise hs).2
    | .on => exact (hon hs).2.2
    | .fall => exact (hfall hs).2
    | .faulted => exact absurd hs hf
  next hz =>
    have h0 : c.target = 0 := by omega
    exact ⟨by simp, fun _ => ⟨ha.trans h0, h0, rfl⟩, by simp, by simp, by simp, by simp⟩

theorem Channel.settled_frame (c : Channel) : c.settled.applied = c.applied ∧ c.settled.target = c.target
    ∧ c.settled.rating = c.rating ∧ c.settled.state ≠ .faulted := by
  unfold Channel.settled
  split <;> exact ⟨rfl, rfl, rfl, by simp⟩

/-- A channel at a frame start: it keeps its rating and target, goes toward the target, and reports when it is there. -/
theorem Channel.atFrameStart_toward (c : Channel) (step : Bool) :
    let x := c.atFrameStart step
    x.1.rating = c.rating ∧ x.1.target = c.target ∧ max x.1.applied c.target ≤ max c.applied c.target
      ∧ (c.applied = c.target → x.1.applied = c.target) ∧ (x.1.state = .faulted → c.state = .faulted)
      ∧ (c.shaped → x.1.shaped ∧ (x.2 = true → x.1.applied = x.1.target)) := by
  obtain ⟨hrt, hrr, hrs, hrm, hre⟩ := c.ramped_toward
  unfold Channel.atFrameStart
  split
  next hd =>
    obtain ⟨h1, h2, h3, h4⟩ := c.settled_frame
    refine ⟨h3, h2, by rw [h1], fun h => by rw [h1, h], fun h => absurd h h4, fun h => ?_⟩
    have ha : c.applied = c.target := h.1 hd
    have hf : c.state ≠ .faulted := fun hs => by simp [(h.2.2.2.2.2 hs).2.2.2.2] at hd
    exact ⟨Channel.settled_shaped h ha hf, fun _ => by rw [h1, h2, ha]⟩
  next hd =>
    have hd' : c.reportDue = false := by simpa using hd
    split
    next hstep =>
      have hmv : c.state = .rise ∨ c.state = .fall := by simpa using (Bool.and_eq_true_iff.mp hstep).2
      have hf : c.ramped.state ≠ .faulted := by rw [hrs]; rcases hmv with h | h <;> simp [h]
      split
      next heq =>
        obtain ⟨h1, h2, h3, h4⟩ := c.ramped.settled_frame
        refine ⟨h3.trans hrr, h2.trans hrt, by rw [h1]; exact hrm, fun h => by rw [h1, heq], fun h => absurd h h4,
          fun h => ⟨Channel.settled_shaped (Channel.ramped_shaped h hd') (heq.trans hrt.symm) hf, fun _ => ?_⟩⟩
        rw [h1, h2, heq, hrt]
      next =>
        exact ⟨hrr, hrt, hrm, hre, fun h => absurd h hf, fun h => ⟨Channel.ramped_shaped h hd', by simp⟩⟩
    next => exact ⟨rfl, rfl, le_rfl, fun h => h, fun h => h, fun h => ⟨h, by simp⟩⟩

/-- A channel at rest stays at rest at a frame start. -/
theorem Channel.atFrameStart_quiet {c : Channel} (step : Bool) (hs : c.shaped) (h : c.state = .off ∨ c.state = .faulted) :
    (c.atFrameStart step).1.state = .off ∨ (c.atFrameStart step).1.state = .faulted := by
  have hz : c.target = 0 := by
    rcases h with h | h
    · exact (hs.2.1 h).2.1
    · exact (hs.2.2.2.2.2 h).2.1
  have hmv : (c.state == .rise || c.state == .fall) = false := by rcases h with h | h <;> simp [h]
  unfold Channel.atFrameStart
  simp only [hmv, Bool.and_false, Bool.false_eq_true, if_false]
  split
  next => left; simp [Channel.settled, hz]
  next => exact h

/-! ### Frames -/

theorem OutputStage.channelFrameStart_settles (step : Bool) (o : OutputStage) (n : ChannelIx) :
    o.Settles (OutputStage.channelFrameStart step o n) := by
  have hx := o.channels[n].atFrameStart_toward step
  have hquiet := Channel.atFrameStart_quiet (c := o.channels[n]) step
  obtain ⟨hpa, hpt, hpr, hps⟩ := (o.channels[n].atFrameStart step).1.newPulse_frame
  have hchan (m : ChannelIx) : (OutputStage.channelFrameStart step o n).channels[m] =
      if m = n then (o.channels[n].atFrameStart step).1.newPulse else o.channels[m] := by
    rw [← OutputStage.channels_setChan]
    unfold OutputStage.channelFrameStart
    simp only
    split <;> rfl
  have hrep : (OutputStage.channelFrameStart step o n).reports =
      if (o.channels[n].atFrameStart step).2 then o.reports ++
        [⟨n, (o.channels[n].atFrameStart step).1.command, (o.channels[n].atFrameStart step).1.applied⟩]
      else o.reports := by
    unfold OutputStage.channelFrameStart
    simp only
    split <;> rfl
  generalize o.channels[n].atFrameStart step = x at *
  obtain ⟨h1, h2, h3, h4, h5, h6⟩ := hx
  have cases (P : ChannelIx → Channel → Prop) (hn : P n x.1.newPulse) (ho : ∀ m, P m o.channels[m]) (m : ChannelIx) :
      P m (OutputStage.channelFrameStart step o n).channels[m] := by
    rw [hchan]
    split
    next h => exact h ▸ hn
    next => exact ho m
  refine ⟨cases (fun m c => c.rating = o.channels[m].rating) (hpr.trans h1) fun _ => rfl,
    cases (fun m c => c.target = o.channels[m].target) (hpt.trans h2) fun _ => rfl,
    cases (fun m c => max c.applied c.target ≤ max o.channels[m].applied o.channels[m].target)
      (by rw [hpa, hpt, h2]; exact h3) fun _ => le_rfl,
    cases (fun m c => o.channels[m].applied = o.channels[m].target → c.applied = c.target)
      (fun h => by rw [hpa, hpt, h2, h4 h]) fun _ h => h,
    cases (fun m c => c.state = .faulted → o.channels[m].state = .faulted) (fun h => h5 (hps ▸ h)) fun _ h => h,
    fun hs => cases (fun _ c => c.shaped) (Channel.newPulse_shaped.mpr (h6 (hs n)).1) hs, fun hs r hr => ?_,
    fun hs hq => cases (fun _ c => c.state = .off ∨ c.state = .faulted) (by rw [hps]; exact hquiet (hs n) (hq n)) hq⟩
  rw [hrep] at hr
  split at hr
  next hrep =>
    rcases List.mem_append.mp hr with hr | hr
    · exact .inl hr
    · right
      have hrn : r.channel = n := by rw [List.mem_singleton.mp hr]
      rw [hchan, hrn, if_pos rfl, hpa, hpt]
      exact (h6 (hs n)).2 hrep
  next => exact .inl hr

theorem OutputStage.frameStart_settles (o : OutputStage) : o.Settles o.frameStart := by
  have fold (l : List ChannelIx) (o' : OutputStage) (h : o.Settles o') :
      o.Settles (l.foldl (OutputStage.channelFrameStart o.stepNext) o') := by
    induction l generalizing o' with
    | nil => exact h
    | cons n l ih => exact ih _ (h.trans (OutputStage.channelFrameStart_settles _ _ n))
  have hall := fold allChannels o (.refl o)
  unfold OutputStage.frameStart
  generalize allChannels.foldl (OutputStage.channelFrameStart o.stepNext) o = o1 at hall
  exact hall.congr rfl rfl

theorem OutputStage.Runs.settles {o o' : OutputStage} (h : o.Runs o') : o.Settles o' := by
  induction h with
  | refl => exact .refl o
  | frame _ ih => exact ih.trans (OutputStage.frameStart_settles _)
  | count _ _ ih => exact ih.congr rfl rfl
  | timing _ _ ih => exact ih.congr rfl rfl

/-- Frames settle the channels of a plant, and change nothing else of it. -/
theorem OutputStage.Settles.plant {p : Plant} {o : OutputStage} (h : p.out.Settles o) (hp : p.Driven) :
    p.Settling { p with out := o } where
  allots _ := rfl
  binding := rfl
  committed := rfl
  ratings := h.ratings
  targets := h.targets
  toward := h.toward
  stays := h.stays
  faulted n hn := .inl (h.faulted n hn)
  shaped := h.shaped hp.shaped
  reports := h.reports hp.shaped

end Sys2Proof.Machine
end

section
/-! Every act keeps the records, the duties and the reports in agreement, and the committed charge within the effective
ceiling. -/

namespace Sys2Proof.Machine

/-! ### Falls to 0 -/

/-- A fall to WAITING or FREE has every target 0 (R12). -/
theorem Plant.targetOf_fall {p : Plant} (a : Allotment) {o : FallOutcome} (ho : o = .waiting ∨ o = .free) (t : Term) :
    (p.inMotion a (fun _ => 0) (some o)).targetOf t = 0 := by
  have hs : (p.inMotion a (fun _ => 0) (some o)).state = .falling o :=
    Plant.transitionState_of_le o fun _ _ => Nat.zero_le _
  unfold Allotment.targetOf
  rw [hs]
  rcases ho with rfl | rfl <;> rfl

/-- A fall to 0 of slot `i` (R60, R78, R88 to R90). -/
theorem Plant.Change.ofFall {eff : Nat} {p q : Plant} {i : SlotIx} {a : Allotment} {o : FallOutcome} (hp : p.Sound)
    (hs : (p.allot i).state ≠ .tripped) (hout : o = .waiting ∨ o = .free)
    (ha : ∀ j, q.allot j = if j = i then a else p.allot j)
    (hsame : a = { p.inMotion (p.allot i) (fun _ => 0) (some o) with run := a.run, changed := a.changed })
    (ho : q.out = p.out.command (p.allot i).terms (fun _ => 0) ((p.allot i).commandId + 1)) : p.Change eff q i a := by
  have hst : a.state = .falling o := by rw [hsame]; exact Plant.transitionState_of_le o fun _ _ => Nat.zero_le _
  refine .ofCommand hp ha hsame ho rfl hs (Plant.recordOk_iff.mp (hp.driven.record i)).1
    (fun t _ => Plant.targetOf_fall _ hout t) ?_ (.inl ?_)
  · rcases hout with rfl | rfl <;> simp [hst]
  · have hc : a.charge = p.transitionCharge (p.allot i).terms fun _ => 0 := by rw [hsame]; rfl
    rw [hc]; exact Plant.transitionCharge_zero (hp.driven.duties i)

/-- A rise of slot `i` to its requested duties, within the effective ceiling (R54, R56, R65). -/
theorem Plant.Change.ofRise {eff : Nat} {p q : Plant} {i : SlotIx} {a : Allotment} (hp : p.Sound)
    (hs : (p.allot i).state ≠ .tripped) (hm : (p.allot i).state.moving = false)
    (hf : p.eng.committed + (p.allot i).requestCost ≤ eff + (p.allot i).charge)
    (ha : ∀ j, q.allot j = if j = i then a else p.allot j)
    (hsame : a = { p.inMotion (p.allot i) (·.requested) none with run := a.run, changed := a.changed })
    (ho : q.out = p.out.command (p.allot i).terms (·.requested) ((p.allot i).commandId + 1)) : p.Change eff q i a := by
  have hst : a.state = .rising := by rw [hsame]; rfl
  refine .ofCommand hp ha hsame ho rfl hs (Plant.recordOk_iff.mp (hp.driven.record i)).1 (fun _ _ => rfl)
    (by simp [hst]) (.inr ?_)
  have hc : a.charge = p.transitionCharge (p.allot i).terms (·.requested) := by rw [hsame]; rfl
  rw [hc, Plant.transitionCharge_requested (hp.driven.record i) (hp.driven.duties i) hm]
  exact hf

/-! ### Records rewritten in place -/

/-- The changed flag and the run timer are no part of the agreement. -/
theorem Plant.Change.ofFlags {eff : Nat} {p q : Plant} {i : SlotIx} {a : Allotment} (hp : p.Sound)
    (hn : (p.allot i).state ≠ .free) (hsame : a = { p.allot i with run := a.run, changed := a.changed })
    (ha : ∀ j, q.allot j = if j = i then a else p.allot j) (ho : q.out = p.out) : p.Change eff q i a := by
  refine .ofStill hp ha (fun n => by unfold Plant.chan; rw [ho]) (fun x hx => ho ▸ hx) ?_ ?_ ?_ ?_ ?_ ?_
  all_goals rw [hsame]
  · exact hp.driven.record i
  · exact hp.driven.duties i
  · exact hp.driven.fits i
  · exact ⟨hn, rfl⟩
  · exact fun h => ⟨h, fun _ h => h, rfl⟩
  · exact .inl le_rfl

/-- An idle record rewritten without charge into another idle state (R62, R65, R124). -/
theorem Plant.Change.ofHalted {eff : Nat} {p q : Plant} {i : SlotIx} {a : Allotment} (hp : p.Sound)
    (hz : ∀ t, (p.allot i).targetOf t = 0) (hm : (p.allot i).state.moving = false) (hch : a.channels = (p.allot i).channels)
    (hterms : p.termsOk a) (htar : ∀ t ∈ a.terms, t.target = 0) (hc : a.charge = 0)
    (ha : ∀ j, q.allot j = if j = i then a else p.allot j) (ho : q.out = p.out)
    (hst : a.state = .waiting ∨ a.state = .staged) (hf : ∀ n ∈ (p.allot i).channels, (p.chan n).state ≠ .faulted) :
    p.Change eff q i a := by
  have hchan : ∀ n, q.chan n = p.chan n := fun n => by unfold Plant.chan; rw [ho]
  refine .ofIdle ha hch hterms htar hc (fun n _ => hchan n) (fun n => by rw [hchan])
    (fun n hn => by rw [hchan]; exact (hp.driven.idle hz (.inl hm)).2 n hn) (fun x hx => ho ▸ hx)
    (.inr ⟨hst, fun n hn => by rw [hchan]; exact hf n hn⟩)

theorem Plant.Driven.not_faulted {p : Plant} (hp : p.Driven) {i : SlotIx} (hs : (p.allot i).state ≠ .tripped) :
    ∀ n ∈ (p.allot i).channels, (p.chan n).state ≠ .faulted := fun n hn => by
  obtain ⟨t, ht, rfl⟩ := List.mem_map.mp hn
  exact (hp.duties i).not_faulted hs ht

/-- The record of a waiting or staged slot halted, in a state that holds no output. -/
theorem Allotment.halted_ok {p : Plant} {a : Allotment} (h : p.termsOk a) (st : AllotState) (b : Bool) :
    let x : Allotment := { a.halted with state := st, charge := 0, changed := b }
    x.channels = a.channels ∧ p.termsOk x ∧ (∀ t ∈ x.terms, t.target = 0) ∧ x.charge = 0 := by
  refine ⟨by simp [Allotment.channels, Allotment.halted, Function.comp_def], Plant.termsOk_retarget h fun _ => 0,
    fun t ht => ?_, rfl⟩
  obtain ⟨u, -, rfl⟩ := List.mem_map.mp ht
  rfl

/-! ### The acts of a pass -/

theorem Plant.PassAct.change {eff : Nat} {o : Origin} {p q : Plant} (h : Plant.PassAct eff o p q) (hp : p.Sound) :
    ∃ i a, p.Change eff q i a := by
  have fits {need : Nat} (hf : p.fits eff need = true) : p.eng.committed + need ≤ eff := of_decide_eq_true hf
  cases h with
  | topUp i hs hf =>
    have hc : (p.allot i).charge = (p.allot i).floorCost := (hp.driven.fits i).2.2 hs
    have := fits hf
    exact ⟨i, _, .ofRise hp (by simp [hs]) (by rw [hs]; rfl) (by omega) (p.allot_topUp o i) rfl (by simp [Plant.topUp])⟩
  | grant i hs hf =>
    have := fits hf
    exact ⟨i, _, .ofRise hp (by simp [hs]) (by rw [hs]; rfl) (by omega)
      (fun j => (p.allot_grant o i j).trans (p.allot_topUp o i j)) rfl (by simp [Plant.grant])⟩
  | reduce i hg hfl hs =>
    have hrun := hs hp.lists.distinct
    have hrec := hp.driven.record i
    have hdut := hp.driven.duties i
    have hterms := (Plant.recordOk_iff.mp hrec).1
    have hst : p.transitionState (p.allot i).terms (p.allot i).floorDutyOf (some .reduced) = .falling .reduced :=
      Plant.transitionState_of_le _ fun t ht => by
        rw [hdut.applied ht (.inl (by rw [hrun]; rfl)), (Plant.recordOk_iff.mp hrec).2.1 t ht, Allotment.targetOf, hrun]
        exact hterms.floorDutyOf_le ht
    refine ⟨i, _, .ofCommand (a0 := p.allot i) (d := (p.allot i).floorDutyOf) (oc := some .reduced)
      (id := (p.allot i).commandId + 1) hp (p.allot_reduceVictim o i) rfl (by simp [Plant.reduceVictim]) rfl
      (by simp [hrun]) hterms (fun t _ => ?_) (fun _ => hfl) (.inl ?_)⟩
    · unfold Allotment.targetOf
      rw [show (p.inMotion (p.allot i) (p.allot i).floorDutyOf (some .reduced)).state = _ from hst]
      rfl
    · rw [(hp.driven.fits i).2.1 hrun]
      exact (Plant.transitionCharge_floor hrec hdut hrun).le
  | shed i hg _ =>
    exact ⟨i, _, .ofFall hp (by rintro h; rw [h] at hg; cases hg) (.inl rfl) (p.allot_shedVictim o i) rfl
      (by simp [Plant.shedVictim])⟩
  | stage i hs _ =>
    obtain ⟨h1, h2, h3, h4⟩ := Allotment.halted_ok (Plant.recordOk_iff.mp (hp.driven.record i)).1 .staged
      ((p.allot i).changed || !o.spares i (p.allot i))
    exact ⟨i, _, .ofHalted hp (by simp [Allotment.targetOf, hs]) (by rw [hs]; rfl) h1 h2 h3 h4 (p.allot_stageEntry o i)
      (by simp [Plant.stageEntry]) (.inr rfl) (hp.driven.not_faulted (by simp [hs]))⟩

theorem Plant.resolveSlot_change {eff : Nat} {p : Plant} (hp : p.Sound) {i : SlotIx} (hs : (p.allot i).state = .staged) :
    ∃ a, p.Change eff (p.resolveSlot eff i) i a := by
  have hall := p.allot_resolveSlot eff i
  have hterms := (Plant.recordOk_iff.mp (hp.driven.record i)).1
  by_cases hf : p.fits eff (p.allot i).requestCost = true
  · simp only [if_pos hf] at hall
    have : p.eng.committed + (p.allot i).requestCost ≤ eff := of_decide_eq_true hf
    exact ⟨_, .ofRise hp (by simp [hs]) (by rw [hs]; rfl) (by omega) hall rfl (by simp [Plant.resolveSlot, hf])⟩
  · simp only [if_neg hf] at hall
    exact ⟨_, .ofHalted (a := { p.allot i with state := .waiting, changed := true }) hp
      (by simp [Allotment.targetOf, hs]) (by rw [hs]; rfl) rfl hterms
      (hp.driven.idle (by simp [Allotment.targetOf, hs]) (.inl (by rw [hs]; rfl))).1
      ((hp.driven.fits i).1 (.inr (.inr (.inl hs)))) hall (by simp [Plant.resolveSlot, hf]) (.inl rfl)
      (hp.driven.not_faulted (by simp [hs]))⟩

/-! ### Ends of transitions (R73, R74) -/

theorem AllotState.ne_tripped_of_moving {st : AllotState} (h : st.moving = true) : st ≠ .tripped := by
  rintro rfl; cases h

/-- The end of a transition: the charge becomes that of the targets, at which every channel stands. -/
theorem Plant.endFall_change {eff : Nat} {p : Plant} (hp : p.Sound) {i : SlotIx} {o : FallOutcome}
    (hu : (p.allot i).unsettled = [])
    (hs : (p.allot i).state = .falling o ∨ (o = .running ∧ (p.allot i).state = .rising)) :
    ∃ a, p.Change eff (p.endFall i o) i a := by
  have hall := p.allot_endFall i o
  have hrec := hp.driven.record i
  have hdut := hp.driven.duties i
  obtain ⟨hterms, htar, hfl⟩ := Plant.recordOk_iff.mp hrec
  have hmv : (p.allot i).state.moving = true := by rcases hs with h | ⟨-, h⟩ <;> rw [h] <;> rfl
  have hnt := AllotState.ne_tripped_of_moving hmv
  have settled {st : AllotState} {d : Term → Nat} {c : Nat} (hst : st.moving = false) (hst' : st ≠ .free)
      (hd : ∀ t ∈ (p.allot i).terms, t.target = d t)
      (htgt : ∀ t, ({ p.allot i with state := st, charge := c, changed := true } : Allotment).targetOf t = d t)
      (hc : c = p.costOf (p.allot i).terms d) (hfit : ({ p.allot i with state := st, charge := c } : Allotment).chargeFits)
      (hfl' : st = .reduced ∨ st = .falling .reduced → (p.allot i).floor.isSome = true) {q : Plant}
      (ha : ∀ j, q.allot j = if j = i then { p.allot i with state := st, charge := c, changed := true } else p.allot j)
      (ho : q.out = p.out) : p.Change eff q i { p.allot i with state := st, charge := c, changed := true } := by
    refine .ofStill hp ha (fun n => by unfold Plant.chan; rw [ho]) (fun x hx => ho ▸ hx)
      (Plant.recordOk_iff.mpr ⟨hterms, fun t ht => by rw [htgt]; exact hd t ht, hfl'⟩)
      (Plant.dutiesOk_settled (d := d) hst (fun t ht => ⟨hd t ht, (hdut.1 t ht).1, hdut.applied ht (.inr (by simp [hu])),
        hdut.not_faulted hnt ht⟩) hc.ge) hfit ⟨hst', rfl⟩ (fun h => ?_) (.inl ?_)
    · change st.moving = true at h
      rw [hst] at h; cases h
    · exact hc.le.trans (hdut.targets_le hd)
  have hzero (ho : o = .waiting ∨ o = .free) : ∀ t, (p.allot i).targetOf t = 0 := by
    rcases hs with h | ⟨h, -⟩
    · rcases ho with rfl | rfl <;> simp [Allotment.targetOf, h]
    · simp [h] at ho
  cases o with
  | running =>
    refine ⟨_, settled rfl (by simp) (d := (·.requested)) (fun t ht => ?_) (fun _ => rfl) hterms.2.2.1 ?_ (by simp) hall rfl⟩
    · rw [htar t ht]
      rcases hs with h | ⟨-, h⟩ <;> simp [Allotment.targetOf, h]
    · exact ⟨by simp, fun _ => rfl, by simp⟩
  | reduced =>
    have h := hs.resolve_right (by simp)
    refine ⟨_, settled rfl (by simp) (d := (p.allot i).floorDutyOf) (fun t ht => ?_) (fun _ => rfl)
      (hterms.floorCost (hfl (.inr h))) ?_ (fun _ => hfl (.inr h)) hall (by simp [Plant.endFall])⟩
    · rw [htar t ht]; simp [Allotment.targetOf, h]
    · exact ⟨by simp, by simp, fun _ => rfl⟩
  | waiting =>
    obtain ⟨ht, hz⟩ := hp.driven.idle (hzero (.inl rfl)) (.inr hu)
    exact ⟨_, .ofIdle hall rfl hterms ht rfl (fun _ _ => rfl) (fun _ => rfl) hz (fun _ h => h)
      (.inr ⟨.inl rfl, hp.driven.not_faulted hnt⟩)⟩
  | free =>
    obtain ⟨-, hz⟩ := hp.driven.idle (hzero (.inr rfl)) (.inr hu)
    have ho : (p.endFall i .free).out = p.out := by simp [Plant.endFall, Plant.freeSlot_frame]
    have hchan : ∀ n, (p.endFall i .free).chan n = p.chan n := fun n => by unfold Plant.chan; rw [ho]
    exact ⟨_, .ofFreed hall (fun n _ => hchan n) (fun n => by rw [hchan]) (fun n hn => by rw [hchan]; exact hz n hn)
      (fun x hx => ho ▸ hx)⟩

/-! ### Releases (R87 to R90) -/

/-- A release frees a slot that holds no output and drops one that drives its channels; the others it leaves. -/
theorem Plant.releaseOne_change {eff : Nat} {p : Plant} (hp : p.Sound) (o : Origin) (retires : Bool) (i : SlotIx) :
    p.releaseOne o retires i = p ∨ ∃ a, p.Change eff (p.releaseOne o retires i) i a := by
  have idle {q : Plant} (hz : ∀ t, (p.allot i).targetOf t = 0) (hm : (p.allot i).state.moving = false)
      (hqa : ∀ j, q.allot j = p.allot j) (hqo : q.out = p.out) : ∃ a, p.Change eff (q.releaseIdle i retires) i a := by
    have ho : (q.releaseIdle i retires).out = p.out := (q.releaseIdle_eng i retires).2.trans hqo
    have hchan : ∀ n, (q.releaseIdle i retires).chan n = p.chan n := fun n => by unfold Plant.chan; rw [ho]
    exact ⟨_, .ofFreed (fun j => by rw [Plant.allot_releaseIdle, hqa i, hqa j]) (fun n _ => hchan n)
      (fun n => by rw [hchan]) (fun n hn => by rw [hchan]; exact (hp.driven.idle hz (.inl hm)).2 n hn)
      (fun x hx => ho ▸ hx)⟩
  have driven {q : Plant} (hs : (p.allot i).state ≠ .tripped) (hqa : ∀ j, q.allot j = p.allot j) (hqo : q.out = p.out) :
      ∃ a, p.Change eff (q.releaseDriven o i retires) i a := by
    refine ⟨_, .ofFall hp hs (.inr rfl) (fun j => ?_) (a := (p.inMotion (p.allot i) (fun _ => 0) (some .free)).marked o i)
      rfl ?_⟩
    · rw [Plant.allot_releaseDriven, hqa i, hqa j, Plant.inMotion_congr hqo]
    · rw [(q.releaseDriven_frame o i retires).2, hqa i, hqo]
  unfold Plant.releaseOne
  split
  case h_1 => exact .inl rfl
  case h_8 => exact .inl rfl
  case h_2 hs => exact .inr (idle (by simp [Allotment.targetOf, hs]) (by rw [hs]; rfl) (p.leaveQueue_allot i) rfl)
  case h_3 hs => exact .inr (idle (by simp [Allotment.targetOf, hs]) (by rw [hs]; rfl) (p.setStage_allot none) rfl)
  case h_4 hs => exact .inr (idle (by simp [Allotment.targetOf, hs]) (by rw [hs]; rfl) (fun _ => rfl) rfl)
  case h_7 hs => exact .inr (driven (by simp [hs]) (p.leaveQueue_allot i) rfl)
  all_goals
    rename_i hs
    exact .inr (driven (by simp [hs]) (fun _ => rfl) rfl)

end Sys2Proof.Machine
end

section
/-! Trips, hard cuts, reshapes and new allotments; then every act. -/

namespace Sys2Proof.Machine

/-! ### Cuts of one slot (R38, R116 to R120) -/

/-- What a cut of the channels of slot `i` does, some of which may have been latched in the same event: the channels of the
slot stand at 0, none becomes FAULTED but by a latch, the others stay. -/
structure Plant.Zeroed (p q : Plant) (i : SlotIx) : Prop where
  others : ∀ n, n ∉ (p.allot i).channels → q.chan n = p.chan n
  ratings : ∀ n, (q.chan n).rating = (p.chan n).rating
  zero : ∀ n ∈ (p.allot i).channels, (q.chan n).shaped ∧ (q.chan n).applied = 0 ∧ (q.chan n).target = 0
  reports : ∀ x ∈ q.out.reports, x ∈ p.out.reports

theorem Plant.chan_cut (p : Plant) (ns : List ChannelIx) (n : ChannelIx) :
    ({ p with out := p.out.cut ns } : Plant).chan n = if n ∈ ns then (p.chan n).cut else p.chan n :=
  p.out.channels_cut ns n

theorem Plant.Zeroed.ofCut {p q : Plant} (hp : p.Driven) {i : SlotIx}
    (ho : q.out = p.out.cut (p.allot i).channels) : p.Zeroed q i := by
  have hchan : ∀ n, q.chan n = if n ∈ (p.allot i).channels then (p.chan n).cut else p.chan n := fun n => by
    rw [← Plant.chan_cut]; unfold Plant.chan; rw [ho]
  refine ⟨fun n hn => by rw [hchan, if_neg hn], fun n => ?_, fun n hn => ?_, fun x hx => ?_⟩
  · rw [hchan]
    split
    next => exact (Channel.cut_zero (hp.shaped n)).2.2.1
    next => rfl
  · obtain ⟨h1, h2, -, -⟩ := Channel.cut_zero (hp.shaped n)
    rw [hchan, if_pos hn]
    exact ⟨Channel.cut_shaped (hp.shaped n), h1, h2⟩
  · rw [ho, OutputStage.reports_cut] at hx
    exact (List.mem_filter.mp hx).1

/-- The record of slot `i` cut into a state that holds no output. -/
theorem Plant.Change.ofCut {eff : Nat} {p q : Plant} {i : SlotIx} {st : AllotState} (hp : p.Driven) (hz : p.Zeroed q i)
    (ha : ∀ j, q.allot j = if j = i then (p.allot i).cutTo st else p.allot j)
    (hst : st = .tripped ∨ st = .waiting ∧ ∀ n ∈ (p.allot i).channels, (q.chan n).state ≠ .faulted) :
    p.Change eff q i ((p.allot i).cutTo st) := by
  obtain ⟨h1, h2, h3, h4⟩ := Allotment.halted_ok (Plant.recordOk_iff.mp (hp.record i)).1 st true
  exact .ofIdle ha h1 h2 h3 h4 hz.others hz.ratings hz.zero hz.reports (hst.imp_right fun h => ⟨.inl h.1, h.2⟩)

theorem Plant.Zeroed.freed {eff : Nat} {p q : Plant} {i : SlotIx} (hz : p.Zeroed q i)
    (ha : ∀ j, q.allot j = if j = i then (p.allot i).freed else p.allot j) : p.Change eff q i (p.allot i).freed :=
  .ofFreed ha hz.others hz.ratings hz.zero hz.reports

theorem Plant.out_hardCutOne (p : Plant) (i : SlotIx) : (p.hardCutOne i).out = p.out.cut (p.allot i).channels := by
  unfold Plant.hardCutOne
  simp only
  split
  next => simp [Plant.freeSlot_frame, Plant.cutAllotment, Allotment.channels]
  next => simp [Plant.cutAllotment, Allotment.channels]

/-- The hard cut of a granted slot (R38). -/
theorem Plant.hardCutOne_change {eff : Nat} {p : Plant} (hp : p.Sound) {i : SlotIx}
    (hg : (p.allot i).state.granted = true) : ∃ a, p.Change eff (p.hardCutOne i) i a := by
  have hall := p.allot_hardCutOne i
  have hz := Plant.Zeroed.ofCut hp.driven (p.out_hardCutOne i)
  have hnf := hp.driven.not_faulted (i := i) (by rintro h; rw [h] at hg; cases hg)
  by_cases hs : (p.allot i).state = .falling .free
  · simp only [if_pos hs] at hall
    exact ⟨_, hz.freed hall⟩
  · simp only [if_neg hs] at hall
    refine ⟨_, .ofCut hp.driven hz hall (.inr ⟨rfl, fun n hn => ?_⟩)⟩
    have hc : (p.hardCutOne i).chan n = (p.chan n).cut := by
      unfold Plant.chan
      rw [p.out_hardCutOne i, OutputStage.channels_cut, if_pos hn]
    rw [hc]
    exact mt (Channel.cut_zero (hp.driven.shaped n)).2.2.2.mp (hnf n hn)

/-! ### Latches and trips (R115 to R120) -/

theorem Plant.chan_latch (p : Plant) (n m : ChannelIx) :
    (p.latch n).chan m = if m = n then (p.chan n).latched else p.chan m := by
  change (p.out.latch n).channels[m] = _
  rw [OutputStage.latch, OutputStage.channels_setChan]; rfl

theorem Plant.mem_reports_latch {p : Plant} {n : ChannelIx} {x : Report} (h : x ∈ (p.latch n).out.reports) :
    x ∈ p.out.reports := (List.mem_filter.mp h).1

/-- The latch of a channel of slot `i` whose channels stand at 0, or that are all cut after it. -/
theorem Plant.Zeroed.ofLatch {p q : Plant} {i : SlotIx} {n : ChannelIx} (hp : p.Driven) (hn : n ∈ (p.allot i).channels)
    (ho : q.out = (p.latch n).out.cut (p.allot i).channels ∨ q.out = (p.latch n).out
      ∧ ∀ m ∈ (p.allot i).channels, (p.chan m).applied = 0 ∧ (p.chan m).target = 0) : p.Zeroed q i := by
  have hshape : ∀ m, ((p.latch n).chan m).shaped ∧ ((p.latch n).chan m).rating = (p.chan m).rating := fun m => by
    rw [Plant.chan_latch]
    split
    next h => rw [h]; exact ⟨Channel.latched_shaped _, rfl⟩
    next => exact ⟨hp.shaped m, rfl⟩
  have hother : ∀ m, m ∉ (p.allot i).channels → (p.latch n).chan m = p.chan m := fun m hm => by
    rw [Plant.chan_latch, if_neg (by rintro rfl; exact hm hn)]
  rcases ho with ho | ⟨ho, hz⟩
  · have hchan : ∀ m, q.chan m = if m ∈ (p.allot i).channels then ((p.latch n).chan m).cut else (p.latch n).chan m :=
      fun m => by rw [← Plant.chan_cut]; unfold Plant.chan; rw [ho]
    refine ⟨fun m hm => by rw [hchan, if_neg hm, hother m hm], fun m => ?_, fun m hm => ?_, fun x hx => ?_⟩
    · rw [hchan, ← (hshape m).2]
      split
      next => exact (Channel.cut_zero (hshape m).1).2.2.1
      next => rfl
    · obtain ⟨h1, h2, -, -⟩ := Channel.cut_zero (hshape m).1
      rw [hchan, if_pos hm]
      exact ⟨Channel.cut_shaped (hshape m).1, h1, h2⟩
    · rw [ho, OutputStage.reports_cut] at hx
      exact Plant.mem_reports_latch (List.mem_filter.mp hx).1
  · have hchan : ∀ m, q.chan m = (p.latch n).chan m := fun m => by unfold Plant.chan; rw [ho]
    refine ⟨fun m hm => by rw [hchan, hother m hm], fun m => by rw [hchan]; exact (hshape m).2, fun m hm => ?_,
      fun x hx => by rw [ho] at hx; exact Plant.mem_reports_latch hx⟩
    rw [hchan]
    refine ⟨(hshape m).1, ?_⟩
    rw [Plant.chan_latch]
    split
    next => exact ⟨rfl, rfl⟩
    next => exact hz m hm

/-- The channels of a granted or falling slot are cut in its trip. -/
theorem Plant.out_tripOne {p : Plant} {i : SlotIx} (hg : (p.allot i).state.granted = true) :
    (p.tripOne i).out = p.out.cut (p.allot i).channels := by
  unfold Plant.tripOne
  split
  case h_1 hs => rw [hs] at hg; cases hg
  case h_2 hs => rw [hs] at hg; cases hg
  case h_3 hs => rw [hs] at hg; cases hg
  case h_4 hs => rw [hs] at hg; cases hg
  case h_5 => simp [Plant.freeSlot_frame, Plant.cutAllotment, Allotment.channels]
  all_goals simp [Plant.cutAllotment, Allotment.channels]

theorem Plant.trip_change {eff : Nat} {p : Plant} (hp : p.Sound) {i : SlotIx} {n : ChannelIx}
    (hn : n ∈ (p.allot i).channels) : ∃ a, p.Change eff ((p.latch n).tripOne i) i a := by
  have hall : ∀ j, ((p.latch n).tripOne i).allot j = if j = i then (p.allot i).trippedFrom else p.allot j :=
    (p.latch n).allot_tripOne i
  have hterms := (Plant.recordOk_iff.mp (hp.driven.record i)).1
  -- A slot that holds no output: its record is tripped as it stands.
  have idle (hz : ∀ t, (p.allot i).targetOf t = 0) (hm : (p.allot i).state.moving = false)
      (hc : (p.allot i).charge = 0) (ho : ((p.latch n).tripOne i).out = (p.latch n).out) {a : Allotment}
      (hsame : a = { p.allot i with state := .tripped, changed := a.changed })
      (ha : ∀ j, ((p.latch n).tripOne i).allot j = if j = i then a else p.allot j) :
      ∃ a, p.Change eff ((p.latch n).tripOne i) i a := by
    obtain ⟨htar, hzero⟩ := hp.driven.idle hz (.inl hm)
    have hzd : p.Zeroed ((p.latch n).tripOne i) i := .ofLatch hp.driven hn (.inr ⟨ho, fun m hm => (hzero m hm).2⟩)
    refine ⟨a, .ofIdle ha (by rw [hsame]; rfl) (by rw [hsame]; exact hterms) (by rw [hsame]; exact htar)
      (by rw [hsame]; exact hc) hzd.others hzd.ratings hzd.zero hzd.reports (.inl (by rw [hsame]))⟩
  have hzero (hs : (p.allot i).state = .free ∨ (p.allot i).state = .waiting ∨ (p.allot i).state = .staged
      ∨ (p.allot i).state = .tripped) : (p.allot i).charge = 0 := (hp.driven.fits i).1 hs
  have cut (hg : (p.allot i).state.granted = true) : p.Zeroed ((p.latch n).tripOne i) i :=
    .ofLatch hp.driven hn (.inl ((p.latch n).out_tripOne hg))
  have tripped (hg : (p.allot i).state.granted = true) (ht : (p.allot i).trippedFrom = (p.allot i).cutTo .tripped) :
      ∃ a, p.Change eff ((p.latch n).tripOne i) i a :=
    ⟨_, .ofCut hp.driven (cut hg) (by rw [← ht]; exact hall) (.inl rfl)⟩
  have freed (hg : (p.allot i).state.granted = true) (ht : (p.allot i).trippedFrom = (p.allot i).freed) :
      ∃ a, p.Change eff ((p.latch n).tripOne i) i a := ⟨_, (cut hg).freed (by rw [← ht]; exact hall)⟩
  have out_idle (hs : (p.allot i).state = .tripped ∨ (p.allot i).state = .waiting ∨ (p.allot i).state = .staged) :
      ((p.latch n).tripOne i).out = (p.latch n).out := by
    have hl : (p.latch n).allot i = p.allot i := rfl
    rcases hs with h | h | h <;> simp [Plant.tripOne, hl, h]
  cases hs : (p.allot i).state with
  | free => exact absurd hs (hp.accounts.1.ne_free hn)
  | tripped =>
    exact idle (by simp [Allotment.targetOf, hs]) (by rw [hs]; rfl) (hzero (.inr (.inr (.inr hs)))) (out_idle (.inl hs))
      (a := (p.allot i).trippedFrom) (by simp only [Allotment.trippedFrom, hs]; rw [← hs]) hall
  | waiting =>
    exact idle (by simp [Allotment.targetOf, hs]) (by rw [hs]; rfl) (hzero (.inr (.inl hs))) (out_idle (.inr (.inl hs)))
      (a := (p.allot i).trippedFrom) (by simp [Allotment.trippedFrom, hs]) hall
  | staged =>
    exact idle (by simp [Allotment.targetOf, hs]) (by rw [hs]; rfl) (hzero (.inr (.inr (.inl hs))))
      (out_idle (.inr (.inr hs))) (a := (p.allot i).trippedFrom) (by simp [Allotment.trippedFrom, hs]) hall
  | rising => exact tripped (by rw [hs]; rfl) (by simp [Allotment.trippedFrom, hs])
  | running => exact tripped (by rw [hs]; rfl) (by simp [Allotment.trippedFrom, hs])
  | reduced => exact tripped (by rw [hs]; rfl) (by simp [Allotment.trippedFrom, hs])
  | falling o =>
    cases o with
    | free => exact freed (by rw [hs]; rfl) (by simp [Allotment.trippedFrom, hs])
    | waiting => exact tripped (by rw [hs]; rfl) (by simp [Allotment.trippedFrom, hs])
    | reduced => exact tripped (by rw [hs]; rfl) (by simp [Allotment.trippedFrom, hs])
    | running => exact tripped (by rw [hs]; rfl) (by simp [Allotment.trippedFrom, hs])

/-! ### Reshapes (R81 to R83) -/

/-- A term with a new duty keeps its channel and its target. -/
theorem mem_withDuties {ts : List Term} {ds : List Nat} {u : Term} (h : u ∈ withDuties ts ds) :
    u.requested ∈ ds ∧ ∃ t ∈ ts, t.channel = u.channel ∧ t.target = u.target := by
  induction ts generalizing ds with
  | nil => simp [withDuties] at h
  | cons t ts ih =>
    cases ds with
    | nil => simp [withDuties] at h
    | cons d ds =>
      rcases List.mem_cons.mp h with rfl | h
      · exact ⟨List.mem_cons_self, t, List.mem_cons_self, rfl, rfl⟩
      · obtain ⟨hd, v, hv, hc⟩ := ih h
        exact ⟨List.mem_cons_of_mem _ hd, v, List.mem_cons_of_mem _ hv, hc⟩

theorem Plant.termsOk_reshaped {p : Plant} {a : Allotment} {ds : List Nat} (h : p.termsOk a)
    (hl : ds.length = a.terms.length) (hd : ∀ d ∈ ds, d ≠ 0) : p.termsOk (p.reshaped a ds) := by
  obtain ⟨hn, -, -, hf⟩ := h
  refine ⟨by rw [Allotment.channels, Plant.reshaped, withDuties_channels hl]; exact hn,
    fun t ht => Nat.one_le_iff_ne_zero.mpr (hd _ (mem_withDuties ht).1), rfl, fun f hff => ?_⟩
  obtain ⟨x, hx, rfl⟩ := Option.map_eq_some_iff.mp (Option.mem_def.mp hff)
  obtain ⟨g, hg, rfl⟩ := Option.map_eq_some_iff.mp hx
  obtain ⟨h1, h2, -⟩ := hf g (by rw [hg]; rfl)
  exact ⟨h1, h2, rfl⟩

/-- From the requested duties the transition charge of a reshape is that of R83. -/
theorem Plant.transitionCharge_withDuties {p : Plant} {a : Allotment} {ds : List Nat}
    (h : ∀ t ∈ a.terms, (p.chan t.channel).applied = t.requested) :
    p.transitionCharge (withDuties a.terms ds) (·.requested) = p.reshapeCharge a ds := by
  unfold Plant.transitionCharge Plant.costOf Plant.reshapeCharge withDuties
  rw [List.map_zipWith]
  congr 1
  generalize a.terms = ts at *
  induction ts generalizing ds with
  | nil => rfl
  | cons t ts ih =>
    cases ds with
    | nil => rfl
    | cons d ds =>
      rw [List.zipWith_cons_cons, List.zipWith_cons_cons, ih fun u hu => h u (List.mem_cons_of_mem _ hu)]
      simp only [h t List.mem_cons_self]

/-- A reshape that raises no duty is charged the request cost. -/
theorem Plant.reshapeCharge_of_lower {p : Plant} {a : Allotment} {ds : List Nat} (hl : ds.length = a.terms.length)
    (h : raisesDuty a.terms ds = false) : p.reshapeCharge a ds = p.requestCostOf a.terms := by
  unfold Plant.reshapeCharge Plant.requestCostOf Plant.costOf
  congr 1
  generalize a.terms = ts at *
  induction ts generalizing ds with
  | nil => cases ds <;> rfl
  | cons t ts ih =>
    cases ds with
    | nil => simp at hl
    | cons d ds =>
      simp only [raisesDuty, List.zipWith_cons_cons, List.any_cons, Bool.or_eq_false_iff, id, decide_eq_false_iff_not,
        Nat.not_lt] at h
      rw [List.zipWith_cons_cons, List.map_cons, ih (by simpa using hl) h.2, max_eq_left h.1]

theorem Plant.reshapeAccepted_change {eff : Nat} {p : Plant} (hp : p.Sound) {i : SlotIx} {ds : List Nat}
    (hl : ds.length = (p.allot i).terms.length) (hd : ∀ d ∈ ds, d ≠ 0)
    (hs : (p.allot i).state = .running ∨ (p.allot i).state = .waiting)
    (hf : (p.allot i).state = .running → raisesDuty (p.allot i).terms ds = true →
      p.eng.committed + p.reserve + (p.reshapeCharge (p.allot i) ds - (p.allot i).charge) ≤ eff) :
    p.reshapeAccepted i ds = p ∨ ∃ a, p.Change eff (p.reshapeAccepted i ds) i a := by
  have hall := (p.allot_reshapeAccepted i · ds)
  have hrec := hp.driven.record i
  have hdut := hp.driven.duties i
  obtain ⟨hterms, htar, -⟩ := Plant.recordOk_iff.mp hrec
  have hterms' := Plant.termsOk_reshaped hterms hl hd
  have hch : (p.reshaped (p.allot i) ds).channels = (p.allot i).channels := withDuties_channels hl
  by_cases hw : (p.allot i).state = .waiting
  · simp only [Plant.reshapedRecord, if_pos hw] at hall
    have hz : ∀ t, (p.allot i).targetOf t = 0 := by simp [Allotment.targetOf, hw]
    refine .inr ⟨_, .ofHalted hp hz (by rw [hw]; rfl) hch hterms' (fun u hu => ?_) ((hp.driven.fits i).1 (.inr (.inl hw)))
      hall (by simp [Plant.reshapeAccepted, hw, Plant.storeReshape]) (.inl hw) (hp.driven.not_faulted (by simp [hw]))⟩
    obtain ⟨-, t, ht, -, htt⟩ := mem_withDuties hu
    rw [← htt, htar t ht, hz]
  have hrun := hs.resolve_right hw
  by_cases hsame : (p.allot i).terms.map (·.requested) = ds
  · left
    simp only [Plant.reshapeAccepted, hrun, hsame, if_true, reduceCtorEq, if_false]
  · right
    simp only [Plant.reshapedRecord, if_neg hw, if_neg hsame] at hall
    have heq : p.reshapeAccepted i ds = (p.storeReshape i ds).startTransition i (·.requested) (some .running) := by
      simp only [Plant.reshapeAccepted, if_neg hw, if_neg hsame]
    have happ : ∀ t ∈ (p.allot i).terms, (p.chan t.channel).applied = t.requested := fun t ht => by
      rw [hdut.applied ht (.inl (by rw [hrun]; rfl)), htar t ht, Allotment.targetOf, hrun]
    refine ⟨_, .ofCommand (a0 := p.reshaped (p.allot i) ds) (d := (·.requested)) (oc := some .running)
      (id := (p.allot i).commandId + 1) hp hall rfl ?_ hch (by simp [hrun]) hterms' (fun t _ => ?_) ?_ ?_⟩
    · rw [heq, Plant.startTransition_out, Plant.allot_storeReshape, if_pos rfl]
      simp [Plant.storeReshape, Plant.reshaped]
    · have hst : (p.inMotion (p.reshaped (p.allot i) ds) (·.requested) (some .running)).state = .rising
          ∨ (p.inMotion (p.reshaped (p.allot i) ds) (·.requested) (some .running)).state = .falling .running := by
        simp only [Plant.inMotion, Plant.inTransition, Plant.transitionState]
        split
        · exact .inl rfl
        · exact .inr rfl
      unfold Allotment.targetOf
      rcases hst with h | h <;> rw [h]
    · simp only [Plant.inMotion, Plant.inTransition, Plant.transitionState]
      split <;> simp
    · have hcharge : p.transitionCharge (p.reshaped (p.allot i) ds).terms (·.requested) = p.reshapeCharge (p.allot i) ds :=
        Plant.transitionCharge_withDuties happ
      simp only [Plant.inMotion, hcharge]
      by_cases hr : raisesDuty (p.allot i).terms ds = true
      · have := hf hrun hr
        right; omega
      · left
        rw [Plant.reshapeCharge_of_lower hl (by simpa using hr), ← hterms.2.2.1, (hp.driven.fits i).2.1 hrun]

end Sys2Proof.Machine
end

section
/-! Every act keeps the plant sound, and the committed charge within the effective ceiling. -/

namespace Sys2Proof.Machine

/-! ### The rest of the acts -/

theorem Plant.createAllotment_change {eff : Nat} {p : Plant} (hp : p.Sound) {i : SlotIx}
    (hs : (p.allot i).state = .free) {c : ClientIx} {payload : List Byte} (hf : claimFieldsOk payload = true)
    (hch : ∀ u ∈ claimTerms payload, p.claimable u.channel) :
    ∃ a, p.Change eff (p.createAllotment c payload i) i a := by
  have hall := p.allot_createAllotment c payload i
  obtain ⟨-, -, -, -, hpair, hdist, hfloor, -⟩ := (claimFieldsOk_iff payload).mp hf
  have hnil : (p.allot i).channels = [] := by simp [Allotment.channels, (hp.accounts.1.values hs).1]
  have hout : (p.createAllotment c payload i).out = p.out := rfl
  have hchan : ∀ n, (p.createAllotment c payload i).chan n = p.chan n := fun n => by unfold Plant.chan; rw [hout]
  have hmem : ∀ t ∈ claimTerms payload, 1 ≤ t.requested ∧ t.target = 0 := fun t ht => by
    simp only [claimTerms, claimPairs, List.map_map, List.mem_map, List.mem_range, Function.comp_apply] at ht
    obtain ⟨k, hk, rfl⟩ := ht
    exact ⟨(hpair k hk).2, rfl⟩
  have hterms : p.termsOk { p.claimRecord c payload (p.allot i) with charge := 0 } := by
    refine ⟨?_, fun t ht => (hmem t ht).1, rfl, fun f hff => ?_⟩
    · have hval := congrArg (List.map Prod.fst) (claimTerms_values fun k hk => (hpair k hk).1)
      simp only [List.map_map, Function.comp_def] at hval
      refine List.Nodup.of_map Fin.val ?_
      change (((claimTerms payload).map Term.channel).map Fin.val).Nodup
      rw [List.map_map, Function.comp_def, hval]
      refine List.Nodup.map_on (fun x hx y hy hxy => ?_) List.nodup_range
      rw [List.mem_range] at hx hy
      by_contra hne
      rcases Nat.lt_or_gt_of_ne hne with hlt | hlt
      · exact hdist x y hlt hy hxy
      · exact hdist y x hlt hx hxy.symm
    · obtain ⟨x, hx, rfl⟩ := Option.map_eq_some_iff.mp (Option.mem_def.mp hff)
      rw [claimFloor_eq] at hx
      split at hx
      next hbit =>
        cases hx
        exact ⟨(hfloor hbit).1, (hfloor hbit).2, rfl⟩
      next => cases hx
  refine ⟨_, hall, fun n _ => hchan n, fun n => by rw [hchan], fun n _ => by rw [hchan]; exact hp.driven.shaped n,
    fun x hx => hx, (Plant.recordOk_congr fun n => by rw [hchan]).mpr (Plant.recordOk_iff.mpr
      ⟨hterms, fun t ht => (hmem t ht).2, by simp [Plant.claimRecord]⟩), ?_, ⟨fun _ => rfl, ?_, ?_⟩,
    .inr (by simp [hnil]), ?_, .inl (Nat.zero_le _)⟩
  · refine (Plant.dutiesOk_congr fun n _ => hchan n).mpr (Plant.dutiesOk_idle (fun t ht => (hmem t ht).2) rfl fun n hn => ?_)
    obtain ⟨t, ht, rfl⟩ := List.mem_map.mp hn
    obtain ⟨-, hnf, hbound⟩ := hch t ht
    obtain ⟨h1, h2⟩ := hp.driven.rest _ hbound
    exact ⟨h1, h2, fun h => absurd h hnf⟩
  · simp [Plant.claimRecord]
  · simp [Plant.claimRecord]
  · intro x _ _ hm
    cases hm

/-- A report that counts for its allotment is of a channel at its target (R72). -/
theorem Plant.takeReport_change {eff : Nat} {p : Plant} (hp : p.Sound) {n : ChannelIx} {r : Report} {h : Handle}
    (hr : p.out.reports.find? (fun r => r.channel == n) = some r) (hb : p.eng.binding[r.channel] = some h)
    (ht : (p.allot h.slot).takesReport r = true) :
    ∃ a, p.Change eff ((p.withoutReport n).noteSettled h.slot r.channel) h.slot a := by
  simp only [Allotment.takesReport, Bool.and_eq_true, List.contains_iff_mem, beq_iff_eq] at ht
  obtain ⟨⟨hm, hu⟩, hc⟩ := ht
  obtain ⟨⟨hcs, hcg⟩, -⟩ := hp.binding.2 _ h hb
  have hhandle : p.handleOf h.slot = h := by
    obtain ⟨x, g⟩ := h
    exact congrArg (Handle.mk x) hcg
  have hhonest := hp.driven.honest r (List.mem_of_find?_eq_some hr) h.slot (by rw [hhandle]; exact hb) hm hu hc
  obtain ⟨h1, h2, h3⟩ := hp.driven.duties h.slot
  refine ⟨_, .ofStill hp (Plant.allot_setAllot _ h.slot · _) (fun _ => rfl) (fun x hx => List.eraseP_subset hx)
    (hp.driven.record h.slot) ⟨fun t ht => ?_, h2, h3⟩ (hp.driven.fits h.slot) ⟨hcs, rfl⟩
    (fun _ => ⟨hm, List.erase_subset, rfl⟩) (.inl le_rfl)⟩
  obtain ⟨htar, hnf, happ⟩ := h1 t ht
  refine ⟨htar, hnf, ?_⟩
  by_cases hr : t.channel = r.channel
  · left; rw [← htar, hr]; exact hhonest
  · exact happ.imp_right fun hx => ⟨hx.1, (List.mem_erase_of_ne hr).mpr hx.2⟩

theorem Plant.requeued_change {eff : Nat} {p : Plant} (hp : p.Sound) {i : SlotIx} (o : Origin)
    (hs : (p.allot i).state = .tripped) (hf : ∀ t ∈ (p.allot i).terms, (p.chan t.channel).state ≠ .faulted) :
    ∃ a, p.Change eff (p.requeued o i) i a := by
  obtain ⟨h1, h2, h3, h4⟩ := Allotment.halted_ok (Plant.recordOk_iff.mp (hp.driven.record i)).1 .waiting
    ((p.allot i).changed || !o.spares i { (p.allot i).halted with state := .waiting, charge := 0 })
  refine ⟨_, .ofHalted hp (by simp [Allotment.targetOf, hs]) (by rw [hs]; rfl) h1 h2 h3 h4 (p.allot_requeued o i)
    (by simp [Plant.requeued]) (.inl rfl) fun n hn => ?_⟩
  obtain ⟨t, ht, rfl⟩ := List.mem_map.mp hn
  exact hf t ht

/-- Where the output stage is left alone nothing settles and nothing moves. -/
theorem Plant.Settling.ofSame {p q : Plant} (hp : p.Driven) (ha : ∀ j, q.allot j = p.allot j)
    (hb : q.eng.binding = p.eng.binding) (hc : q.eng.committed = p.eng.committed) (ho : ∀ n, q.chan n = p.chan n)
    (hr : ∀ x ∈ q.out.reports, x ∈ p.out.reports) : p.Settling q where
  allots := ha
  binding := hb
  committed := hc
  ratings n := by rw [ho]
  targets n := by rw [ho]
  toward n := by rw [ho]
  stays n h := by rw [ho]; exact h
  faulted n h := .inl (by rwa [ho] at h)
  shaped n := by rw [ho]; exact hp.shaped n
  reports x hx := .inl (hr x hx)

/-- A channel that stands at 0 rewritten to stand at 0 (R115, R124, R126). -/
theorem Plant.Settling.ofZero {p q : Plant} (hp : p.Driven) {n : ChannelIx} {c : Channel}
    (heng : q.eng = p.eng) (ho : ∀ m, q.chan m = if m = n then c else p.chan m)
    (hr : ∀ x ∈ q.out.reports, x ∈ p.out.reports) (hz : (p.chan n).applied = 0 ∧ (p.chan n).target = 0)
    (hc : c.applied = 0 ∧ c.target = 0 ∧ c.rating = (p.chan n).rating ∧ c.shaped)
    (hf : c.state = .faulted → p.eng.binding[n] = none) : p.Settling q := by
  obtain ⟨h1, h2, h3, h4⟩ := hc
  have cases (P : ChannelIx → Channel → Prop) (hn : P n c) (hp : ∀ m, P m (p.chan m)) (m : ChannelIx) :
      P m (q.chan m) := by
    rw [ho]
    split
    next h => exact h ▸ hn
    next => exact hp m
  exact ⟨fun _ => by unfold Plant.allot; rw [heng], by rw [heng], by rw [heng],
    cases (fun m x => x.rating = (p.chan m).rating) h3 fun _ => rfl,
    cases (fun m x => x.target = (p.chan m).target) (h2.trans hz.2.symm) fun _ => rfl,
    cases (fun m x => max x.applied x.target ≤ max (p.chan m).applied (p.chan m).target)
      (by rw [h1, h2]; exact Nat.zero_le _) fun _ => le_rfl,
    cases (fun m x => (p.chan m).applied = (p.chan m).target → x.applied = x.target) (fun _ => by rw [h1, h2])
      fun _ h => h,
    cases (fun m x => x.state = .faulted → (p.chan m).state = .faulted ∨ p.eng.binding[m] = none)
      (fun h => .inr (hf h)) fun _ h => .inl h,
    cases (fun _ x => x.shaped) h4 hp.shaped, fun x hx => .inl (hr x hx)⟩

theorem Channel.cleared_shaped (c : Channel) : c.cleared.shaped := by simp [Channel.shaped, Channel.cleared]

theorem Plant.Act.change {eff : Nat} {p q : Plant} (h : Plant.Act eff p q) (hp : p.Sound) :
    p.Settling q ∨ ∃ i a, p.Change eff q i a := by
  have same : p.Settling p := .ofSame hp.driven (fun _ => rfl) rfl rfl (fun _ => rfl) fun _ h => h
  cases h with
  | pass h => exact .inr (h.change hp)
  | resolve h hs => exact .inr ⟨_, Plant.resolveSlot_change hp (hp.lists.staged hs)⟩
  | unflag i hn => exact .inr ⟨i, _, .ofFlags hp hn rfl (p.allot_setAllot i · _) rfl⟩
  | dropReport n =>
    exact .inl (.ofSame hp.driven (fun _ => rfl) rfl rfl (fun _ => rfl) fun x hx => List.eraseP_subset hx)
  | takeReport n r h hr hb ht => exact .inr ⟨_, Plant.takeReport_change hp hr hb ht⟩
  | endRise i hs hu => exact .inr ⟨i, Plant.endFall_change (o := .running) hp hu (.inr ⟨rfl, hs⟩)⟩
  | endFall i o hs hu => exact .inr ⟨i, Plant.endFall_change hp hu (.inl hs)⟩
  | release o retires i =>
    rcases Plant.releaseOne_change (eff := eff) hp o retires i with h | h
    · rw [h]; exact .inl same
    · exact .inr ⟨i, h⟩
  | latch n hf hb =>
    exact .inl (.ofZero hp.driven rfl (p.chan_latch n) (fun _ => Plant.mem_reports_latch) (hp.driven.rest n hb)
      ⟨rfl, rfl, rfl, Channel.latched_shaped _⟩ fun _ => hb)
  | trip n h hf hb => exact .inr ⟨_, Plant.trip_change hp (hp.binding.2 n h hb).2⟩
  | runTick i r hs => exact .inr ⟨i, _, .ofFlags hp (AllotState.ne_free_of_runs hs) rfl (p.allot_setAllot i · _) rfl⟩
  | expire i hs =>
    exact .inr ⟨i, _, .ofFall hp (by rintro h; rw [h] at hs; cases hs) (.inr rfl) (p.allot_expired i) rfl
      (by simp [Plant.expired, Plant.fallToFree])⟩
  | reshape i ds hl hd hs hf =>
    rcases Plant.reshapeAccepted_change hp hl hd hs hf with h | h
    · rw [h]; exact .inl same
    · exact .inr ⟨i, h⟩
  | clearLatch n hf =>
    obtain ⟨h1, h2, -⟩ := (hp.driven.shaped n).2.2.2.2.2 hf
    exact .inl (.ofZero hp.driven rfl (fun m => p.chan_setChan n m _) (fun _ h => h) ⟨h1, h2⟩
      ⟨rfl, rfl, rfl, Channel.cleared_shaped _⟩ fun h => by cases h)
  | retry o i hs hf => exact .inr ⟨i, Plant.requeued_change hp o hs hf⟩
  | client c x hx => exact .inl (.ofSame hp.driven (fun _ => rfl) rfl rfl (fun _ => rfl) fun _ h => h)
  | levels l => exact .inl (.ofSame hp.driven (fun _ => rfl) rfl rfl (fun _ => rfl) fun _ h => h)
  | output o h => exact .inl (h.settles.plant hp.driven)

/-! ### What every act keeps -/

/-- The plant sound with its committed charge within the effective ceiling. -/
structure Plant.Within (eff : Nat) (p : Plant) : Prop where
  sound : p.Sound
  committed : p.eng.committed ≤ eff

/-- Moves with the lists and the channels kept leave the plant sound. -/
theorem Plant.Sound.ofMoves {eff : Nat} {p q : Plant} (hp : p.Sound) (hm : p.Moves q) (hl : q.listsOk)
    (hd : p.Settling q ∨ ∃ i a, p.Change eff q i a) : q.Sound ∧ (p.eng.committed ≤ eff → q.eng.committed ≤ eff) := by
  have hacc := hm.accountsAgree hp.accounts
  have hbind := (hm.bindingExact ⟨hp.accounts.1, hp.binding⟩).2
  rcases hd with hd | ⟨i, a, hd⟩
  · exact ⟨⟨hacc, hbind, hl, hd.driven hp⟩, fun h => hd.committed ▸ h⟩
  · exact ⟨⟨hacc, hbind, hl, hd.driven hp hbind⟩, hd.within hp.accounts hacc⟩

theorem Plant.Act.sound {eff : Nat} {p q : Plant} (h : Plant.Act eff p q) (hp : p.Sound) :
    q.Sound ∧ (p.eng.committed ≤ eff → q.eng.committed ≤ eff) :=
  hp.ofMoves h.moves (h.listsOk hp.lists) (h.change hp)

theorem Plant.Acts.within {eff : Nat} {p q : Plant} (h : Plant.Acts eff p q) (hp : p.Within eff) : q.Within eff := by
  induction h with
  | refl => exact hp
  | tail _ ha ih =>
    obtain ⟨h1, h2⟩ := ha.sound ih.sound
    exact ⟨h1, h2 ih.committed⟩

theorem State.claimPasses.within {s : State} {c : ClientIx} {p : List Byte} {i : SlotIx} (h : s.claimPasses c p i)
    {eff : Nat} (hp : s.plant.Within eff) : (s.plant.createAllotment c p i).Within eff := by
  have hm := h.moves
  obtain ⟨-, -, -, -, hf, hch, -, -, hi⟩ := h
  have hs := Plant.lowestFree_free hi
  obtain ⟨a, hc⟩ := Plant.createAllotment_change (eff := eff) hp.sound hs (c := c) hf (Plant.claimChannelTest_none.mp hch)
  obtain ⟨h1, h2⟩ := hp.sound.ofMoves hm (Plant.createAllotment_listsOk hp.sound.lists hs c p) (.inr ⟨i, a, hc⟩)
  exact ⟨h1, h2 hp.committed⟩

/-! ### The hard cut (R37 to R39) -/

theorem Plant.hardCutOne_sound {p : Plant} (hp : p.Sound) {i : SlotIx} (hg : (p.allot i).state.granted = true) :
    (p.hardCutOne i).Sound := by
  obtain ⟨a, hc⟩ := Plant.hardCutOne_change (eff := 0) hp hg
  exact (hp.ofMoves (p.hardCutOne_moves i) (Plant.hardCutOne_listsOk hp.lists hg) (.inr ⟨i, a, hc⟩)).1

/-- A hard cut takes its slot out of the grant list and leaves the other records. -/
theorem Plant.granted_hardCutOne (p : Plant) (i j : SlotIx) :
    ((p.hardCutOne i).allot j).state.granted = if j = i then false else (p.allot j).state.granted := by
  rw [Plant.allot_hardCutOne]
  by_cases h : j = i
  · simp only [if_pos h]
    split <;> rfl
  · simp only [if_neg h]

/-- Where nothing is granted nothing is committed (R33, R35). -/
theorem Plant.Sound.committed_eq_zero {p : Plant} (hp : p.Sound) (h : ∀ i, (p.allot i).state.granted = false) :
    p.eng.committed = 0 := by
  rw [hp.accounts.2, Plant.chargeSum]
  refine List.sum_eq_zero fun x hx => ?_
  obtain ⟨i, -, rfl⟩ := List.mem_map.mp hx
  refine (hp.driven.fits i).1 ?_
  have hi := h i
  match hs : (p.allot i).state with
  | .free => exact .inl rfl
  | .waiting => exact .inr (.inl rfl)
  | .staged => exact .inr (.inr (.inl rfl))
  | .tripped => exact .inr (.inr (.inr rfl))
  | .rising | .running | .reduced | .falling _ => rw [hs] at hi; cases hi

/-- The walk of a hard cut over all that is granted ends within the effective ceiling. -/
theorem cutWalk_within {eff : Nat} (l : List Handle) {p : Plant} (hp : p.Sound) (hn : (l.map Handle.slot).Nodup)
    (hg : ∀ i, i ∈ l.map Handle.slot ↔ (p.allot i).state.granted = true) : (cutWalk eff l p).Within eff := by
  induction l generalizing p with
  | nil =>
    have h0 := hp.committed_eq_zero fun i => by simpa using (hg i).not.mp (by simp)
    exact ⟨hp, by rw [cutWalk, h0]; exact Nat.zero_le _⟩
  | cons h rest ih =>
    unfold cutWalk
    split
    next hc => exact ⟨hp, hc⟩
    next =>
      rw [List.map_cons, List.nodup_cons] at hn
      refine ih (Plant.hardCutOne_sound hp ((hg h.slot).mp (by simp))) hn.2 fun i => ?_
      rw [Plant.granted_hardCutOne]
      have hi := hg i
      rw [List.map_cons, List.mem_cons] at hi
      split
      next heq => subst heq; simp [hn.1]
      next hne => rw [← hi]; simp [hne]

/-- The order of a hard cut names every granted slot once (R37). -/
theorem Plant.cutOrder_slots {p : Plant} (hp : p.listsOk) :
    (p.cutOrder.map Handle.slot).Nodup ∧ ∀ i, i ∈ p.cutOrder.map Handle.slot ↔ (p.allot i).state.granted = true := by
  have hgr := hp.1.2.1
  have hmem : ∀ h, h ∈ p.cutOrder ↔ h ∈ p.eng.grants := fun h => by
    simp only [Plant.cutOrder, List.mem_append, List.mem_filter, List.mem_reverse, Plant.mem_victimOrder]
    refine ⟨fun hx => hx.elim And.left And.left, fun hx => ?_⟩
    have := hgr.mem_iff_slot hx
    match hs : (p.allot h.slot).state with
    | .rising | .running | .reduced => right; exact ⟨hx, rfl⟩
    | .falling _ => left; exact ⟨hx, rfl⟩
    | .free | .waiting | .staged | .tripped => rw [hs] at this; cases this
  constructor
  · rw [Plant.cutOrder, List.map_append, List.nodup_append]
    refine ⟨?_, ?_, ?_⟩
    · exact (List.Nodup.sublist (List.filter_sublist.map _) (by rw [List.map_reverse]; exact List.nodup_reverse.mpr hp.distinct))
    · exact (Plant.victimOrder_nodup hp.distinct).sublist (List.filter_sublist.map _)
    · rintro x hx y hy rfl
      obtain ⟨h, hh, rfl⟩ := List.mem_map.mp hx
      obtain ⟨g, hg, hgs⟩ := List.mem_map.mp hy
      have h1 := (List.mem_filter.mp hh).2
      have h2 := (List.mem_filter.mp hg).2
      rw [hgs] at h2
      cases hs : (p.allot h.slot).state <;> simp [hs, AllotState.outcome?] at h1 h2
  · intro i
    rw [← hgr.2.2 i, List.mem_map]
    refine ⟨?_, fun hi => ⟨_, (hmem _).mpr hi, rfl⟩⟩
    rintro ⟨h, hh, rfl⟩
    have := (hmem h).mp hh
    rwa [hgr.2.1 h this] at this

/-- The engine takes the report of a new effective ceiling, and the committed charge ends within it (R36). -/
theorem Plant.ceilingReport_within {p : Plant} {old new : Nat} (hp : p.Within old) : (p.ceilingReport old new).Within new := by
  obtain ⟨hs, hc⟩ := hp
  unfold Plant.ceilingReport
  split
  next h => exact (Plant.passIf_acts p new .other true).within ⟨hs, by omega⟩
  split
  next h => exact ⟨hs, h⟩
  next =>
    obtain ⟨hn, hg⟩ := Plant.cutOrder_slots hs.lists
    exact (Plant.settleStage_acts _ new true).within (cutWalk_within _ hs hn hg)

end Sys2Proof.Machine
end

section
/-! The part at rest (R166), the limit unit (R25 to R29), and the budget at every step. -/

namespace Sys2Proof.Machine

/-! ### The part at rest -/

/-- A plant without allotments whose channels all stand at 0 is sound. -/
theorem Plant.Sound.ofFree {p : Plant} (ha : p.accountsAgree) (hb : p.bindingExact) (hf : ∀ i, (p.allot i).state = .free)
    (hq : p.eng.queue = [] ∧ p.eng.grants = [] ∧ p.eng.stage = none)
    (hc : ∀ n, (p.chan n).shaped ∧ (p.chan n).applied = 0 ∧ (p.chan n).target = 0) : p.Sound := by
  obtain ⟨hqu, hgr, hst⟩ := hq
  have hval (i : SlotIx) := ha.1.values (hf i)
  refine ⟨ha, hb, ⟨⟨?_, ?_, ?_, ?_⟩, ?_⟩, fun i => ?_, fun i => ?_, fun i => ?_, fun n _ => (hc n).2, fun n => (hc n).1,
    fun x _ i _ hm => ?_⟩
  · rw [hqu]; exact Plant.lists_nil fun i => by rw [hf i]; rfl
  · rw [hgr]; exact Plant.lists_nil fun i => by rw [hf i]; rfl
  · simp [Plant.stageExact, hf, hst]
  · simp [Plant.stageCurrent, hst]
  · rw [Plant.queueOrdered, hqu]; exact .nil
  · obtain ⟨ht, hfl, hr, -⟩ := hval i
    simp [Plant.recordOk, Allotment.channels, Plant.requestCostOf, Plant.costOf, ht, hfl, hr, hf i]
  · refine Plant.dutiesOk_idle ?_ (by rw [hf i]; rfl) ?_ <;> simp [Allotment.channels, (hval i).1]
  · exact ⟨fun _ => (hval i).2.2.2.1, by simp [hf i], by simp [hf i]⟩
  · rw [hf i] at hm; cases hm

theorem Plant.sound_reset : Plant.reset.Sound :=
  .ofFree Plant.accountsAgree_reset Plant.bindingExact_reset (by simp [Allotment.reset]) ⟨rfl, rfl, rfl⟩ fun n => by
    rw [Plant.chan_reset]; exact ⟨Channel.shaped_reset, rfl, rfl⟩

/-- A channel at rest stands at 0, outside its phase slot. -/
theorem Channel.shaped.rest {c : Channel} (hs : c.shaped) (h : c.state = .off ∨ c.state = .faulted) :
    c.applied = 0 ∧ c.target = 0 ∧ c.phase = none := by
  rcases h with h | h
  · exact hs.2.1 h
  · obtain ⟨h1, h2, h3, -⟩ := hs.2.2.2.2.2 h
    exact ⟨h1, h2, h3⟩

/-- A sound plant is at rest when it holds no allotment and every channel is at rest. -/
theorem Plant.Sound.quiet {p : Plant} (hp : p.Sound) (hf : ∀ i, (p.allot i).state = .free)
    (hc : ∀ n, (p.chan n).state = .off ∨ (p.chan n).state = .faulted) : p.quiet := by
  have hnil {l : List Handle} {f : AllotState → Bool} (h : p.lists l f) (hfree : f .free = false) : l = [] :=
    List.eq_nil_iff_forall_not_mem.mpr fun e he => by
      have := h.mem_iff_slot he
      rw [hf, hfree] at this; cases this
  obtain ⟨hq, hg, -⟩ := hp.lists.1
  refine ⟨hf, hp.committed_eq_zero fun i => by rw [hf i]; rfl, hnil hq rfl, hnil hg rfl, ?_, hc⟩
  cases hs : p.eng.stage with
  | none => rfl
  | some h =>
    have := hp.lists.staged hs
    rw [hf] at this; cases this

/-- At rest an act changes no record, and leaves every channel at rest. -/
theorem Plant.Act.quiet {eff : Nat} {p q : Plant} (h : Plant.Act eff p q) (hp : p.Sound) (hq : p.quiet) : q.quiet := by
  obtain ⟨hf, -, -, -, hst, hc⟩ := hq
  have absurd_state {i : SlotIx} {P : Prop} (hn : (p.allot i).state ≠ .free) : P := absurd (hf i) hn
  have channel {n : ChannelIx} {c : Channel} (ho : ∀ m, q.chan m = if m = n then c else p.chan m)
      (hcs : c.state = .off ∨ c.state = .faulted) (m : ChannelIx) :
      (q.chan m).state = .off ∨ (q.chan m).state = .faulted := by
    rw [ho]; split
    next => exact hcs
    next => exact hc m
  have hq := (h.sound hp).1
  cases h with
  | pass h =>
    cases h with
    | topUp i hs _ => exact absurd_state (i := i) (by simp [hs])
    | grant i hs _ => exact absurd_state (i := i) (by simp [hs])
    | reduce i hg _ _ => exact absurd_state (AllotState.ne_free_of_granted hg)
    | shed i hg _ => exact absurd_state (AllotState.ne_free_of_granted hg)
    | stage i hs _ => exact absurd_state (i := i) (by simp [hs])
  | resolve h hs => rw [hst] at hs; cases hs
  | unflag i hn => exact absurd_state hn
  | dropReport n => exact hq.quiet hf hc
  | takeReport n r h hr hb ht => exact absurd_state (hp.binding.2 _ h hb).1.1
  | endRise i hs _ => exact absurd_state (i := i) (by simp [hs])
  | endFall i o hs _ => exact absurd_state (i := i) (by simp [hs])
  | release o retires i =>
    have : p.releaseOne o retires i = p := by simp [Plant.releaseOne, hf i]
    rw [this] at hq ⊢
    exact hq.quiet hf hc
  | latch n _ _ => exact hq.quiet hf (channel (p.chan_latch n) (.inr rfl))
  | trip n h _ hb => exact absurd_state (hp.binding.2 _ h hb).1.1
  | runTick i r hs => exact absurd_state (AllotState.ne_free_of_runs hs)
  | expire i hs => exact absurd_state (AllotState.ne_free_of_runs hs)
  | reshape i ds _ _ hs _ => exact absurd_state (i := i) (by rcases hs with h | h <;> simp [h])
  | clearLatch n _ => exact hq.quiet hf (channel (fun m => p.chan_setChan n m _) (.inl rfl))
  | retry o i hs _ => exact absurd_state (i := i) (by simp [hs])
  | client c x _ => exact hq.quiet hf hc
  | levels l => exact hq.quiet hf hc
  | output o h => exact hq.quiet hf (h.settles.quiet hp.driven.shaped hc)

theorem Plant.Acts.quiet {eff : Nat} {p q : Plant} (h : Plant.Acts eff p q) (hp : p.Within eff) (hq : p.quiet) :
    q.quiet := by
  induction h with
  | refl => exact hq
  | tail hacts ha ih => exact ha.quiet (Plant.Acts.within hacts hp).sound ih

/-- HALT leaves the plant sound and at rest (R170). -/
theorem Plant.halt_sound {p : Plant} (hp : p.Sound) : p.halt.Sound ∧ p.halt.quiet := by
  have hout : p.haltFreed.out = p.out := by
    have fold (l : List SlotIx) (q : Plant) (h : q.out = p.out) : (l.foldl Plant.haltOne q).out = p.out := by
      induction l generalizing q with
      | nil => exact h
      | cons i l ih =>
        refine ih _ ?_
        unfold Plant.haltOne
        split <;> simp [Plant.freeSlot_frame, h]
    exact fold _ p rfl
  have hchan : ∀ n, p.halt.chan n = (p.chan n).cut := fun n => by
    change (p.haltFreed.out.cut allChannels).channels[n] = _
    have hn : n ∈ allChannels := List.mem_finRange n
    rw [OutputStage.channels_cut, if_pos hn, hout]; rfl
  have hsound : p.halt.Sound := by
    refine .ofFree (p.halt_moves.accountsAgree hp.accounts) (p.halt_moves.bindingExact ⟨hp.accounts.1, hp.binding⟩).2
      p.haltFreed_free ⟨rfl, rfl, rfl⟩ fun n => ?_
    obtain ⟨h1, h2, -, -⟩ := Channel.cut_zero (hp.driven.shaped n)
    rw [hchan]
    exact ⟨Channel.cut_shaped (hp.driven.shaped n), h1, h2⟩
  refine ⟨hsound, hsound.quiet p.haltFreed_free fun n => ?_⟩
  rw [hchan]
  match hs : (p.chan n).state with
  | .off => left; simp [Channel.cut, hs]
  | .faulted => right; simp [Channel.cut, hs]
  | .rise | .on | .fall => left; simp [Channel.cut, hs, Channel.cleared]

/-- An accepted SET_CHANNEL writes a channel at rest (R98, R166). -/
theorem Channel.configure_rest {c : Channel} (hs : c.shaped) (h : c.state = .off ∨ c.state = .faulted) (enable : Bool)
    (rating step : Nat) (low : Bool) :
    let c' := c.configure enable rating step low
    c'.shaped ∧ (c'.state = .off ∨ c'.state = .faulted) := by
  obtain ⟨h1, h2, h3⟩ := hs.rest h
  have same : ({ c with enabled := enable, rating := rating, step := step } : Channel).shaped := hs
  unfold Channel.configure
  simp only
  split
  next =>
    split
    next => exact ⟨Channel.latched_shaped _, .inr rfl⟩
    next => exact ⟨same, h⟩
  next =>
    split
    next => exact ⟨⟨fun _ => h1.trans h2.symm, fun _ => ⟨h1, h2, h3⟩, by simp, by simp, by simp, by simp⟩, .inl rfl⟩
    next => exact ⟨same, h⟩

theorem Plant.configure_sound {p : Plant} (hp : p.Sound) (hq : p.quiet) (n : ChannelIx) (enable : Bool)
    (rating step : Nat) (low : Bool) :
    let q := p.setChan n ((p.chan n).configure enable rating step low)
    q.Sound ∧ q.quiet := by
  intro q
  obtain ⟨hf, -, hqu, hgr, hst, hc⟩ := hq
  have hchan : ∀ m, (q.chan m).shaped ∧ ((q.chan m).state = .off ∨ (q.chan m).state = .faulted) := fun m => by
    rw [Plant.chan_setChan]
    split
    next => exact Channel.configure_rest (hp.driven.shaped n) (hc n) enable rating step low
    next => exact ⟨hp.driven.shaped m, hc m⟩
  have hsound : q.Sound := .ofFree hp.accounts hp.binding hf ⟨hqu, hgr, hst⟩ fun m => by
    obtain ⟨h1, h2⟩ := hchan m
    obtain ⟨h3, h4, -⟩ := h1.rest h2
    exact ⟨h1, h3, h4⟩
  exact ⟨hsound, hsound.quiet hf fun m => (hchan m).2⟩

/-! ### The limit unit (R25 to R29) -/

/-- The effective ceiling and the derate state agree with the part state and the pins. -/
def State.limitsSound (s : State) : Prop := s.ceilingSound ∧ s.derateSound

theorem State.Keeps.limitsSound {s t : State} (hk : s.Keeps t) (hl : t.lim = s.lim) (h : s.limitsSound) :
    t.limitsSound := by
  obtain ⟨h1, h2, h3, h4, h5⟩ := hk
  simpa only [State.limitsSound, State.ceilingSound, State.derateSound, State.inReset, h1, h2, h3, h4, h5, hl] using h

theorem State.recompute_limitsSound {s : State} (h : s.lim.holdTimer.isSome = true ↔ s.lim.derate = .holding)
    (hd : s.derateSound) : s.recompute.limitsSound := by
  rw [State.recompute_frame]
  exact ⟨⟨rfl, h⟩, hd⟩

/-- A change after which the effective ceiling is recomputed leaves the rest of the limit unit in agreement. -/
theorem State.Relimits.sound {s s' : State} (h : s.Relimits s') (hr : s.inReset = false) (hs : s.limitsSound) :
    (s'.lim.holdTimer.isSome = true ↔ s'.lim.derate = .holding) ∧ s'.derateSound := by
  obtain ⟨⟨-, hh⟩, hsup, hd⟩ := hs
  have hder := hd hr
  cases h with
  | store => exact ⟨hh, hsup, hd⟩
  | commit => exact ⟨hh, hsup, hd⟩
  | falls hn =>
    exact ⟨by simpa [State.setDerate, State.setDerateLow, hn] using hh, hsup, by
      simp [State.setDerate, State.setDerateLow]⟩
  | rises hn => exact ⟨by simp [State.setDerate, State.setDerateLow], hsup, by simp [State.setDerate, State.setDerateLow]⟩
  | expires hn =>
    refine ⟨by simp [State.setDerate], hsup, fun _ => ?_⟩
    rw [hn] at hder
    simpa [State.setDerate] using hder

theorem State.Relimits.frame {s s' : State} (h : s.Relimits s') :
    s'.lim.effective = s.lim.effective ∧ (s'.ctl.part = .setup → s.ctl.part = .setup) := by
  cases h with
  | commit => exact ⟨rfl, by simp [State.setPart]⟩
  | _ => exact ⟨rfl, fun h => h⟩

/-- A change of DERATEn after which the effective ceiling is not recomputed leaves the limit unit in agreement. -/
theorem State.Rederates.sound {s s' : State} (h : s.Rederates s') (hr : s.inReset = false) (hs : s.limitsSound) :
    s'.limitsSound ∧ s'.lim.effective = s.lim.effective ∧ s'.ctl = s.ctl := by
  obtain ⟨⟨he, hh⟩, hsup, hd⟩ := hs
  have hder := hd hr
  have heff (l : LimitUnit) (h1 : l.configured = s.lim.configured) (h2 : l.derated = s.lim.derated)
      (h3 : (l.derate = .derated ∧ s.lim.derate = .holding) ∨ (l.derate = .holding ∧ s.lim.derate = .derated)
        ∨ l.derate = s.lim.derate) : s.lim.effective = l.effectiveFor s.ctl.part := by
    rw [he]
    cases hp : s.ctl.part with
    | setup => rfl
    | run =>
      rcases h3 with ⟨h3, h4⟩ | ⟨h3, h4⟩ | h3
      · simp only [LimitUnit.effectiveFor, h3, h4, h1, h2]
      · simp only [LimitUnit.effectiveFor, h3, h4, h1, h2]
      · unfold LimitUnit.effectiveFor; rw [h3, h1, h2]
  cases h with
  | fallsDerated h =>
    exact ⟨⟨⟨he, hh⟩, hsup, fun _ => by simp [State.setDerateLow, h]⟩, rfl, rfl⟩
  | fallsHolding h =>
    exact ⟨⟨⟨heff _ rfl rfl (.inl ⟨rfl, h⟩), by simp [State.setDerate, State.setDerateLow]⟩, hsup, fun _ => by
      simp [State.setDerate, State.setDerateLow]⟩, rfl, rfl⟩
  | risesDerated h k =>
    exact ⟨⟨⟨heff _ rfl rfl (.inr (.inl ⟨rfl, h⟩)), by simp [State.setDerate, State.setDerateLow]⟩, hsup, fun _ => by
      simp [State.setDerate, State.setDerateLow]⟩, rfl, rfl⟩
  | risesOther h =>
    exact ⟨⟨⟨he, hh⟩, hsup, fun _ => by simpa [State.setDerateLow] using h⟩, rfl, rfl⟩

/-! ### The budget -/

theorem State.budgetSound_iff {s : State} : s.budgetSound ↔ s.plant.Within s.lim.effective
    ∧ (s.ctl.part = .setup → s.plant.quiet ∧ s.lim.effective = 0) ∧ s.limitsSound := by
  constructor
  · rintro ⟨hc, ha, hr, hrest, hb, hl, ho, ⟨-, hf⟩, ⟨hs, hq⟩, he, hd, hh⟩
    exact ⟨⟨⟨ha, hb, ⟨hl, ho⟩, fun i => (hr i).1, fun i => (hr i).2, hf, hrest, hs, hh⟩, hc⟩, hq, he, hd⟩
  · rintro ⟨⟨⟨ha, hb, hl, hd⟩, hc⟩, hq, he, hds⟩
    exact ⟨hc, ha, fun i => ⟨hd.record i, hd.duties i⟩, hd.rest, hb, hl.1, hl.2, ⟨fun h hs => hl.staged hs, hd.fits⟩,
      ⟨hd.shaped, hq⟩, he, hds, hd.honest⟩

/-- The record of a client is no part of what is sound. -/
theorem Plant.Sound.setClient {p : Plant} (hp : p.Sound) (c : ClientIx) (x : Client) : (p.setClient c x).Sound :=
  ⟨hp.accounts, hp.binding, hp.lists, ⟨hp.driven.record, hp.driven.duties, hp.driven.fits, hp.driven.rest,
    hp.driven.shaped, hp.driven.honest⟩⟩

theorem State.Effect.budgetSound {s t : State} (h : s.Effect t) (hs : s.budgetSound) : t.budgetSound := by
  rw [State.budgetSound_iff] at hs ⊢
  obtain ⟨hw, hq, hl⟩ := hs
  have acts {p : Plant} (hp : p.Within s.lim.effective) (h : Plant.Acts s.lim.effective p t.plant)
      (hlim : t.lim = s.lim) : t.plant.Within t.lim.effective := by rw [hlim]; exact h.within hp
  cases h with
  | acts h hlim hk =>
    refine ⟨acts hw h hlim, fun hp => ?_, hk.limitsSound hlim hl⟩
    obtain ⟨h1, h2⟩ := hq (hk.part ▸ hp)
    exact ⟨h.quiet hw h1, by rw [hlim, h2]⟩
  | claim c p i hpass h hlim hk =>
    refine ⟨acts (hpass.within hw) h hlim, fun hp => ?_, hk.limitsSound hlim hl⟩
    rw [hk.part, hpass.2.1] at hp; cases hp
  | channel n enable rating step low hsetup h hlim hk =>
    obtain ⟨h1, h2⟩ := hq hsetup
    obtain ⟨h3, h4⟩ := Plant.configure_sound hw.sound h1 n enable rating step low
    rw [h, hlim]
    exact ⟨⟨h3, hw.committed⟩, fun _ => ⟨h4, h2⟩, hk.limitsSound hlim hl⟩
  | configured c x _ hsetup h hlim hk =>
    rw [h, hlim]
    exact ⟨⟨hw.sound.setClient c x, hw.committed⟩, fun _ => hq hsetup, hk.limitsSound hlim hl⟩
  | relimit s' hr h hp hlim hk =>
    obtain ⟨h1, h2⟩ := h.frame
    obtain ⟨h3, h4⟩ := h.sound hr hl
    have hplant : s'.plant = s.plant := h.plant
    rw [hp, hlim]
    refine ⟨?_, fun hsetup => ?_, ?_⟩
    · unfold State.recompute
      simp only
      split
      next => rw [hplant, h1]; exact hw
      next => exact Plant.ceilingReport_within (by rw [hplant, h1]; exact hw)
    · rw [hk.part] at hsetup
      obtain ⟨h5, h6⟩ := hq (h2 hsetup)
      rw [State.recompute_same s' (by rw [h1, h6, hsetup]; rfl), hplant, h1]
      exact ⟨h5, h6⟩
    · have hk' : s'.recompute.Keeps t := by
        rw [State.recompute_frame]
        exact ⟨hk.part, hk.pending, hk.derateLow, hk.supplyOk, hk.resetnHigh⟩
      exact hk'.limitsSound hlim (State.recompute_limitsSound h3 h4)
  | rederate s' hr h hp hlim hk =>
    obtain ⟨h1, h2, h3⟩ := h.sound hr hl
    rw [hp, hlim, h2]
    exact ⟨hw, fun hsetup => hq (by rw [← h3, ← hk.part]; exact hsetup), hk.limitsSound hlim h1⟩
  | halt h hlim hk =>
    obtain ⟨h1, h2⟩ := Plant.halt_sound hw.sound
    rw [h, hlim]
    refine ⟨⟨h1, by rw [h2.2.1]⟩, fun _ => ⟨h2, rfl⟩, ⟨?_, ?_⟩, ?_⟩
    · rw [hk.part, hlim]; rfl
    · rw [hlim]; exact hl.1.2
    · simp only [State.derateSound, State.inReset, hk.pending, hk.derateLow, hk.supplyOk, hk.resetnHigh, hlim]
      exact hl.2
  | reset h hlim hp hsup =>
    rw [h, hlim]
    refine ⟨⟨Plant.sound_reset, Nat.zero_le _⟩, fun _ => ⟨Plant.quiet_reset, rfl⟩, ⟨?_, ?_⟩, fun hf => ?_, fun _ => ?_⟩
    · rw [hlim, hp]; rfl
    · rw [hlim]
      simp only [LimitUnit.reset]
      split <;> simp
    · rcases hsup with h1 | h1 | ⟨h1, h2⟩
      · rw [hf] at h1; cases h1
      · exact h1
      · rw [h1]; exact hl.2.1 (by rw [← h2]; exact hf)
    · rw [hlim]
      simp only [LimitUnit.reset]
      split <;> simp_all
  | held h hlim hc hr hv =>
    rw [h, hlim, hc]
    refine ⟨hw, hq, ?_, fun hf => ?_, fun hf => ?_⟩
    · simpa only [State.ceilingSound, hlim, hc] using hl.1
    · rw [hc]; exact hl.2.1 (hv ▸ hf)
    · rw [hr] at hf; cases hf
  | supply h hlim hc hp =>
    rw [h, hlim, hc]
    refine ⟨hw, hq, ?_, fun hf => ?_, fun hf => ?_⟩
    · simpa only [State.ceilingSound, hlim, hc] using hl.1
    · rw [hp] at hf; cases hf
    · have hsr : s.inReset = false := by
        simp only [State.inReset, hc, hp] at hf ⊢
        cases hv : s.pins.supplyOk with
        | true => simpa using hf
        | false =>
          have := hl.2.1 hv
          simp [this] at hf
      rw [hlim, hp]
      exact hl.2.2 hsr

theorem State.budgetSound_reset : State.reset.budgetSound := by
  obtain ⟨-, -, -, -, -, -, hout, hceil, hder, -⟩ := invariantsHoldAtReset
  exact State.budgetSound_iff.mpr ⟨⟨Plant.sound_reset, Nat.zero_le _⟩, hout.2, hceil, hder⟩

end Sys2Proof.Machine

open Sys2Proof Sys2Proof.Machine in
/-- Settles O56: every kind of step keeps the budget, which the reset state meets. -/
theorem committedStaysWithinTheCeiling : Obligations.CommittedStaysWithinTheCeiling := by
  refine ⟨fun s t hs h => ?_, State.budgetSound_reset⟩
  rcases step_effect h with rfl | ⟨rest, he⟩
  · exact hs
  · exact he.budgetSound hs
end

section
/-! Victims (R51, R58 to R61): the candidates stand in victim order, and the victims of a plan are those that
`takenInOrder` names. -/

namespace Sys2Proof.Machine

/-! ### Victim order -/

theorem Plant.outranks_iff {p : Plant} {a b : ClassIx} : p.outranks a b ↔ ranksAbove p.eng.levels a b = true :=
  ranksAbove_iff.symm

/-- In a list without repetition no two entries follow each other both ways. -/
theorem not_sublist_swap {α : Type} {l : List α} (hl : l.Nodup) {x y : α} (h : [x, y].Sublist l) : ¬[y, x].Sublist l := by
  induction l with
  | nil => cases h
  | cons a l ih =>
    rw [List.nodup_cons] at hl
    intro h'
    rcases h with _ | h | h
    · rename_i h
      rcases h' with _ | h' | h'
      · rename_i h'; exact ih hl.2 h h'
      · rename_i h'; exact hl.1 (h.subset (by simp))
    · rename_i h
      rcases h' with _ | h' | h'
      · rename_i h'; exact hl.1 (h'.subset (by simp))
      · rename_i h'; exact hl.1 (h.subset (by simp))

/-- Of two allotments one at most is lost before the other (R51). -/
theorem Plant.lostBefore_asymm {p : Plant} (hg : p.eng.grants.Nodup) {x y : Handle} (h : p.lostBefore x y) :
    ¬p.lostBefore y x := by
  unfold Plant.lostBefore at h ⊢
  simp only [Plant.outranks_iff] at h ⊢
  have self (c : ClassIx) : ranksAbove p.eng.levels c c = false := ranksAbove_false_iff.mpr (.inr ⟨rfl, le_rfl⟩)
  rintro (h' | ⟨hc', ha'⟩)
  · rcases h with h | ⟨hc, -⟩
    · rw [ranksAbove_asymm h] at h'; cases h'
    · rw [hc, self] at h'; cases h'
  · rcases h with h | ⟨-, ha⟩
    · rw [hc', self] at h; cases h
    · exact not_sublist_swap hg ha ha'

/-- The victim order lists each allotment before those that are lost after it (R51). -/
theorem Plant.victimOrder_pairwise (p : Plant) : p.victimOrder.Pairwise p.lostBefore := by
  unfold Plant.victimOrder
  rw [List.pairwise_flatMap]
  constructor
  · intro c _
    have hrev : p.eng.grants.reverse.Pairwise p.admittedAfter := by
      rw [List.pairwise_reverse]
      exact List.pairwise_iff_forall_sublist.mpr fun h => h
    refine (hrev.filter _).imp_of_mem fun hx hy hxy => .inr ⟨?_, hxy⟩
    have h1 := (List.mem_filter.mp hx).2
    have h2 := (List.mem_filter.mp hy).2
    simp only [decide_eq_true_eq] at h1 h2
    rw [h1, h2]
  · rw [List.pairwise_reverse]
    refine (classesByRank_pairwise p.eng.levels).imp fun hcd x hx y hy => .inl ?_
    have h1 := (List.mem_filter.mp hx).2
    have h2 := (List.mem_filter.mp hy).2
    simp only [decide_eq_true_eq] at h1 h2
    rw [Plant.outranks_iff, h1, h2]
    exact hcd

/-! ### The victims of a plan -/

/-- The victims are the shortest initial part of the candidates whose gains sum to what is needed. -/
theorem takeVictims_iff {gain : Handle → Nat} {need : Nat} {l vs : List Handle} (hn : 0 < need) :
    takeVictims gain need l = some vs ↔
      vs <+: l ∧ need ≤ (vs.map gain).sum ∧ ∀ k < vs.length, ((vs.take k).map gain).sum < need := by
  induction l generalizing need vs with
  | nil =>
    simp only [takeVictims, reduceCtorEq, List.prefix_nil, false_iff]
    rintro ⟨rfl, h, -⟩
    simp at h; omega
  | cons x r ih =>
    unfold takeVictims
    cases vs with
    | nil =>
      refine ⟨fun h => ?_, fun h => ?_⟩
      · split at h <;> simp at h
      · simp at h; omega
    | cons y ws =>
      rw [List.cons_prefix_cons]
      split
      next hle =>
        refine ⟨fun h => ?_, fun ⟨⟨hy, _⟩, _, hk⟩ => ?_⟩
        · cases h
          exact ⟨⟨rfl, List.nil_prefix⟩, by simpa using hle, by simpa using hn⟩
        · subst hy
          cases ws with
          | nil => rfl
          | cons z ws =>
            have := hk 1 (by simp)
            simp at this; omega
      next hlt =>
        have hk : (∀ k < (y :: ws).length, (((y :: ws).take k).map gain).sum < need) ↔
            ∀ k < ws.length, gain y + ((ws.take k).map gain).sum < need := by
          refine ⟨fun h k hk => by simpa using h (k + 1) (by simpa using hk), fun h k hk => ?_⟩
          cases k with
          | zero => simpa using hn
          | succ k => simpa using h k (by simpa using hk)
        rw [hk, Option.map_eq_some_iff]
        simp only [List.cons.injEq, List.map_cons, List.sum_cons]
        constructor
        · rintro ⟨ws', hws, rfl, rfl⟩
          obtain ⟨h1, h2, h3⟩ := (ih (by omega)).mp hws
          exact ⟨⟨rfl, h1⟩, by omega, fun k hk => by have := h3 k hk; omega⟩
        · rintro ⟨⟨rfl, h1⟩, h2, h3⟩
          exact ⟨ws, (ih (by omega)).mpr ⟨h1, by omega, fun k hk => by have := h3 k hk; omega⟩, rfl, rfl⟩

/-- What is taken from a list ordered by an asymmetric relation, in order and before the rest, is its initial part. -/
theorem isPrefix_of_ordered {α : Type} {R : α → α → Prop} (hR : ∀ {x y}, R x y → ¬R y x) {l vs : List α}
    (hl : l.Pairwise R) (hv : vs.Pairwise R) (hsub : ∀ x ∈ vs, x ∈ l) (hfirst : ∀ x ∈ vs, ∀ y ∈ l, y ∉ vs → R x y) :
    vs <+: l := by
  induction vs generalizing l with
  | nil => exact List.nil_prefix
  | cons x ws ih =>
    have irrefl {z : α} : ¬R z z := fun h => hR h h
    cases l with
    | nil => exact absurd (hsub x List.mem_cons_self) (by simp)
    | cons y r =>
      rw [List.pairwise_cons] at hl hv
      have hxy : x = y := by
        by_contra hne
        have hxr : x ∈ r := (List.mem_cons.mp (hsub x List.mem_cons_self)).resolve_left hne
        have hyx : R y x := hl.1 x hxr
        by_cases hy : y ∈ ws
        · exact hR hyx (hv.1 y hy)
        · exact hR hyx (hfirst x List.mem_cons_self y List.mem_cons_self (by simp [hy, Ne.symm hne]))
      subst hxy
      refine List.cons_prefix_cons.mpr ⟨rfl, ih hl.2 hv.2 (fun z hz => ?_) fun z hz w hw hnw => ?_⟩
      · refine (List.mem_cons.mp (hsub z (List.mem_cons_of_mem _ hz))).resolve_left ?_
        rintro rfl
        exact irrefl (hv.1 z hz)
      · have hwx : w ≠ x := by rintro rfl; exact irrefl (hl.1 w hw)
        exact hfirst z (List.mem_cons_of_mem _ hz) w (List.mem_cons_of_mem _ hw) (by simp [hnw, hwx])

/-- The victims a plan takes are those that `takenInOrder` names (R59, R60). -/
theorem takenInOrder_iff {before : Handle → Handle → Prop} {candidate : Handle → Prop} {gain : Handle → Nat} {need : Nat}
    {l vs : List Handle} (hb : ∀ {x y}, before x y → ¬before y x) (hl : l.Pairwise before)
    (hmem : ∀ x, x ∈ l ↔ candidate x) (hn : 0 < need) :
    takenInOrder before candidate gain need vs ↔ takeVictims gain need l = some vs := by
  rw [takeVictims_iff hn]
  constructor
  · rintro ⟨h1, h2, h3, h4⟩
    exact ⟨isPrefix_of_ordered hb hl h2 (fun x hx => (hmem x).mpr (h1 x hx)) fun x hx y hy =>
      h3 x hx y ((hmem y).mp hy), h4⟩
  · rintro ⟨⟨r, rfl⟩, h4⟩
    rw [List.pairwise_append] at hl
    refine ⟨fun x hx => (hmem x).mp (List.mem_append_left _ hx), hl.1, fun x hx y hy hny => ?_, h4⟩
    exact hl.2.2 x hx y ((List.mem_append.mp ((hmem y).mpr hy)).resolve_left hny)

section Candidates
variable {p : Plant}

theorem Plant.takes_reductions_iff {c : ClassIx} {gain : Handle → Nat} {need : Nat} {vs : List Handle}
    (hp : p.listsOk) (hn : 0 < need) :
    takenInOrder p.lostBefore (fun x => x ∈ p.eng.grants ∧ (p.allot x.slot).state = .running
        ∧ (p.allot x.slot).floor.isSome = true ∧ p.outranks c (p.classOf x)) gain need vs
      ↔ takeVictims gain need (p.reductionCandidates c) = some vs :=
  takenInOrder_iff (p.lostBefore_asymm hp.1.2.1.1) (p.victimOrder_pairwise.filter _)
    (fun x => by rw [mem_reductionCandidates, Plant.outranks_iff]) hn

theorem Plant.takes_sheddings_iff {c : ClassIx} {gain : Handle → Nat} {need : Nat} {vs : List Handle}
    (hp : p.listsOk) (hn : 0 < need) :
    takenInOrder p.lostBefore (fun x => x ∈ p.eng.grants ∧ ((p.allot x.slot).state = .rising
        ∨ (p.allot x.slot).state = .running ∨ (p.allot x.slot).state = .reduced)
        ∧ p.outranks c (p.classOf x)) gain need vs
      ↔ takeVictims gain need (p.sheddingCandidates c) = some vs :=
  takenInOrder_iff (p.lostBefore_asymm hp.1.2.1.1) (p.victimOrder_pairwise.filter _)
    (fun x => by
      rw [mem_sheddingCandidates, Plant.outranks_iff]
      simp [AllotState.sheddable, or_assoc]) hn

end Candidates

end Sys2Proof.Machine
end

section
/-! The event of an accepted CLAIM (R19, R20): the allotment it creates, and the pass that finds it at the head of the
queue. -/

namespace Sys2Proof.Machine

/-! ### The engine field by field -/

theorem Plant.allots_eq_set {p q : Plant} {i : SlotIx} {a : Allotment}
    (h : ∀ j, q.allot j = if j = i then a else p.allot j) : q.eng.allots = p.eng.allots.set i a := by
  refine Vector.ext fun k hk => ?_
  have hj : q.eng.allots[k] = if (⟨k, hk⟩ : SlotIx) = i then a else p.eng.allots[k] := h ⟨k, hk⟩
  rw [hj, Vector.getElem_set]
  simp only [Fin.ext_iff, eq_comm]

/-- Two engines with the same levels differ in the other fields only. -/
theorem Engine.eq_of_levels {x e : Engine} (h : x.levels = e.levels) :
    x = { e with allots := x.allots, binding := x.binding, queue := x.queue, grants := x.grants, stage := x.stage
                 committed := x.committed } := by
  cases x; cases e; cases h; rfl

/-! ### The creation (R19) -/

section Create
variable {p : Plant} {c : ClientIx} {payload : List Byte} {i : SlotIx}

/-- The record R19 writes, with charge 0. -/
def Plant.newRecord (p : Plant) (c : ClientIx) (payload : List Byte) (i : SlotIx) : Allotment :=
  { p.claimRecord c payload (p.allot i) with charge := 0 }

theorem Plant.allot_create (p : Plant) (c : ClientIx) (payload : List Byte) (i j : SlotIx) :
    (p.createAllotment c payload i).allot j = if j = i then p.newRecord c payload i else p.allot j :=
  p.allot_createAllotment c payload i j

/-- A creation leaves the grant list, the stage, the levels, the output stage and, as the slot was free, the committed
charge. -/
theorem Plant.createAllotment_frame (hc : (p.allot i).charge = 0) :
    let q := p.createAllotment c payload i
    q.eng.grants = p.eng.grants ∧ q.eng.stage = p.eng.stage ∧ q.eng.levels = p.eng.levels
      ∧ q.eng.committed = p.eng.committed ∧ q.out = p.out := by
  refine ⟨rfl, rfl, rfl, ?_, rfl⟩
  change p.eng.committed - ((p.setAllot i (p.claimRecord c payload (p.allot i))).allot i).charge + 0 = _
  rw [Plant.allot_setAllot_self]
  simp [Plant.claimRecord, hc]

theorem Plant.createAllotment_queue (p : Plant) (c : ClientIx) (payload : List Byte) (i : SlotIx) :
    (p.createAllotment c payload i).eng.queue
      = placeBack (p.createAllotment c payload i) (claimClass payload) (p.handleOf i) p.eng.queue := by
  let p1 := (p.setAllot i (p.claimRecord c payload (p.allot i))).setCharge i 0
  let p2 := (p1.bindTerms (claimTerms payload) (some (p1.handleOf i))).adjustClaimed (some c)
    (p.requestCostOf (claimTerms payload)) 0
  have hrec : ∀ j, p2.allot j = (p.createAllotment c payload i).allot j := fun _ => rfl
  have hcls : (p2.allot i).cls = claimClass payload := by rw [hrec, Plant.allot_create, if_pos rfl]; rfl
  have hhandle : p2.handleOf i = p.handleOf i := by
    simp only [Plant.handleOf, hrec, Plant.allot_create, if_true]; rfl
  change placeBack p2 (p2.allot i).cls (p2.handleOf i) p.eng.queue = _
  rw [hcls, hhandle]
  exact placeBack_congr (p := p.createAllotment c payload i) (q := p2) rfl (fun _ => rfl) _ _ _

theorem Plant.createAllotment_clients (p : Plant) (c : ClientIx) (payload : List Byte) (i : SlotIx) :
    (p.createAllotment c payload i).clients = p.clients.set c
      { p.client c with claimed := (p.client c).claimed + p.requestCostOf (claimTerms payload) } := rfl

theorem Plant.createAllotment_binding (p : Plant) (c : ClientIx) (payload : List Byte) (i : SlotIx) (n : ChannelIx) :
    (p.createAllotment c payload i).eng.binding[n] =
      if n ∈ (claimTerms payload).map Term.channel then some (p.handleOf i) else p.eng.binding[n] := by
  let p1 := (p.setAllot i (p.claimRecord c payload (p.allot i))).setCharge i 0
  have hhandle : p1.handleOf i = p.handleOf i := by simp [p1, Plant.handleOf, Plant.claimRecord]
  change (p1.bindTerms (claimTerms payload) (some (p1.handleOf i))).eng.binding[n] = _
  rw [Plant.binding_bindTerms, hhandle]; rfl

/-- No target is commanded before the grant (R12). -/
theorem claimTerms_target {t : Term} (h : t ∈ claimTerms payload) : t.target = 0 := by
  simp only [claimTerms, List.mem_map] at h
  obtain ⟨x, -, rfl⟩ := h
  rfl

end Create

/-! ### What a pass leaves alone -/

theorem Plant.PassChain.frame {eff : Nat} {o : Origin} {p q : Plant} (h : Plant.PassChain eff o p q) :
    q.eng.binding = p.eng.binding ∧ q.clients = p.clients := by
  induction h with
  | refl => exact ⟨rfl, rfl⟩
  | tail _ hact ih =>
    rw [← ih.1, ← ih.2]
    cases hact with
    | topUp => exact ⟨by simp [Plant.topUp], by simp [Plant.topUp, Plant.leaveQueue]⟩
    | grant => exact ⟨by simp [Plant.grant], by simp [Plant.grant, Plant.leaveQueue, Plant.joinGrants]⟩
    | reduce => exact ⟨by simp [Plant.reduceVictim], by simp [Plant.reduceVictim]⟩
    | shed => exact ⟨by simp [Plant.shedVictim], by simp [Plant.shedVictim, Plant.leaveQueue]⟩
    | stage =>
      exact ⟨by simp [Plant.stageEntry], by
        simp [Plant.stageEntry, Plant.leaveQueue, Plant.setStage, Plant.setCharge, Plant.setAllot]⟩

/-- A pass that meets a WAITING entry first (R55, R56, R58, R61). -/
theorem passWalk_waiting {eff : Nat} {o : Origin} {h : Handle} {rest : List Handle} {p : Plant}
    (hs : (p.allot h.slot).state = .waiting) :
    passWalk eff o (h :: rest) p =
      if eff < (p.allot h.slot).requestCost then passWalk eff o rest p
      else if p.fits eff (p.allot h.slot).requestCost then passWalk eff o rest (p.grant o h.slot)
      else (p.plan eff o h.slot).getD p := by
  rw [passWalk]
  simp only [hs]
  split
  next => rfl
  next =>
    split
    next => rfl
    next => cases p.plan eff o h.slot <;> rfl

/-! ### The answer (R20) -/

/-- An accepted CLAIM is answered with the handle and the state after the event. -/
theorem State.claimPasses.exec {s : State} {c : ClientIx} {p : List Byte} {i : SlotIx} (h : s.claimPasses c p i) :
    let q := s.plant.claimAccepted s.lim.effective c p i
    exec (.claim (.client c) p) s = .next (State.answered { s with plant := q } .claim (.client c) p (q.claimReply i)) := by
  obtain ⟨hreset, hrun, hact, hlen, hfld, hch, hcost, hquota, hi⟩ := h
  change s.request .claim (.client c) p claim = _
  rw [State.request_client hreset _ _ _ (Client.active_ne_unset hact), claim_limits ⟨hrun, hact, hlen, hfld⟩ hch]
  simp only [if_neg (Nat.not_lt.mpr hcost), if_neg (Nat.not_lt.mpr hquota), hi]
  rfl

end Sys2Proof.Machine
end

section
/-! The victims of a plan fall one after the other, and then the entry is staged (R59, R60, R62). -/

namespace Sys2Proof.Machine

/-! ### One victim -/

/-- The record of a victim that falls toward the targets `d` (R59, R60, R69). -/
def Plant.felled (p : Plant) (a : Allotment) (d : Term → Nat) (o : FallOutcome) : Allotment :=
  { a with
    terms := a.terms.map fun u => { u with target := d u }
    state := .falling o
    charge := p.transitionCharge a.terms d
    changed := true
    commandId := a.commandId + 1
    unsettled := a.terms.map Term.channel }

/-- What the fall of the victim in slot `i` does, toward the targets that `d` reads from its record. -/
structure Plant.Fells (p q : Plant) (i : SlotIx) (d : Allotment → Term → Nat) (o : FallOutcome) : Prop where
  sound : q.Sound
  allots : ∀ j, q.allot j = if j = i then p.felled (p.allot i) (d (p.allot i)) o else p.allot j
  queue : q.eng.queue = p.eng.queue.filter fun e => e.slot ≠ i
  grants : q.eng.grants = p.eng.grants
  stage : q.eng.stage = p.eng.stage
  levels : q.eng.levels = p.eng.levels
  out : q.out = p.out.command (p.allot i).terms (d (p.allot i)) ((p.allot i).commandId + 1)

/-- A reduction candidate falls to its floor duties (R59). -/
theorem Plant.reduceVictim_fells {p : Plant} (hp : p.Sound) {i k : SlotIx} (hk : i ≠ k)
    (hs : (p.allot i).state = .running ∧ (p.allot i).floor.isSome = true) :
    p.Fells (p.reduceVictim (.owner k) i) i Allotment.floorDutyOf .reduced := by
  obtain ⟨hrun, hfl⟩ := hs
  have hact : Plant.Act 0 p (p.reduceVictim (.owner k) i) := .pass (.reduce i (by rw [hrun]; rfl) hfl fun _ => hrun)
  have hst : p.transitionState (p.allot i).terms (p.allot i).floorDutyOf (some .reduced) = .falling .reduced :=
    Plant.transitionState_of_le _ fun t ht => by
      obtain ⟨hterms, htar, -⟩ := Plant.recordOk_iff.mp (hp.driven.record i)
      rw [(hp.driven.duties i).applied ht (.inl (by rw [hrun]; rfl)), htar t ht, Allotment.targetOf, hrun]
      exact hterms.floorDutyOf_le ht
  refine ⟨(hact.sound hp).1, fun j => ?_, ?_, by simp [Plant.reduceVictim], by simp [Plant.reduceVictim],
    by simp [Plant.reduceVictim], by simp [Plant.reduceVictim]⟩
  · rw [Plant.allot_reduceVictim]
    simp [Plant.felled, Plant.inTransition, hst, Origin.spares, beq_eq_false_iff_ne.mpr hk]
  · rw [hp.lists.1.1.filter_eq (by rw [hrun]; rfl)]
    simp [Plant.reduceVictim]

/-- A shedding candidate falls to 0 and leaves the queue (R60). -/
theorem Plant.shedVictim_fells {p : Plant} (hp : p.Sound) {i k : SlotIx} (hk : i ≠ k)
    (hs : (p.allot i).state.sheddable = true) : p.Fells (p.shedVictim (.owner k) i) i (fun _ _ => 0) .waiting := by
  have hact : Plant.Act 0 p (p.shedVictim (.owner k) i) :=
    .pass (.shed i (AllotState.granted_of_sheddable hs) fun _ => hs)
  have hst : p.transitionState (p.allot i).terms (fun _ => 0) (some .waiting) = .falling .waiting :=
    Plant.transitionState_of_le _ fun _ _ => Nat.zero_le _
  refine ⟨(hact.sound hp).1, fun j => ?_, by simp [Plant.shedVictim, Plant.leaveQueue], by simp [Plant.shedVictim],
    by simp [Plant.shedVictim], by simp [Plant.shedVictim], by simp [Plant.shedVictim]⟩
  rw [Plant.allot_shedVictim]
  simp [Plant.felled, Plant.inTransition, hst, Origin.spares, beq_eq_false_iff_ne.mpr hk]

/-! ### All victims -/

/-- What the falls of the victims `vs` do together. -/
structure Plant.FellsAll (p q : Plant) (vs : List Handle) (d : Allotment → Term → Nat) (o : FallOutcome) : Prop where
  sound : q.Sound
  victims : ∀ x ∈ vs, q.allot x.slot = p.felled (p.allot x.slot) (d (p.allot x.slot)) o
  others : ∀ j, j ∉ vs.map Handle.slot → q.allot j = p.allot j
  queue : q.eng.queue = p.eng.queue.filter fun e => e.slot ∉ vs.map Handle.slot
  grants : q.eng.grants = p.eng.grants
  stage : q.eng.stage = p.eng.stage
  levels : q.eng.levels = p.eng.levels
  out : q.out = vs.foldl (fun out x =>
    out.command (p.allot x.slot).terms (d (p.allot x.slot)) ((p.allot x.slot).commandId + 1)) p.out
  committed : q.eng.committed + (vs.map fun x => (p.allot x.slot).charge).sum
    = p.eng.committed + (vs.map fun x => p.transitionCharge (p.allot x.slot).terms (d (p.allot x.slot))).sum

/-- Without victims nothing falls. -/
theorem Plant.FellsAll.nil {p : Plant} (hp : p.Sound) (d : Allotment → Term → Nat) (o : FallOutcome) :
    p.FellsAll p [] d o := ⟨hp, by simp, fun _ _ => rfl, by simp, rfl, rfl, rfl, rfl, rfl⟩

/-- A fall leaves the channels of every other slot alone. -/
theorem Plant.Fells.chan {p q : Plant} {i : SlotIx} {d : Allotment → Term → Nat} {o : FallOutcome} (h : p.Fells q i d o)
    (hp : p.Sound) {j : SlotIx} (hj : j ≠ i) {n : ChannelIx} (hn : n ∈ (p.allot j).channels) : q.chan n = p.chan n := by
  unfold Plant.chan
  rw [h.out]
  exact OutputStage.channels_command _ _ _ _ _ fun hi => hj (hp.disjoint hn hi)

/-- A fall leaves the transition charge of every other slot as it was. -/
theorem Plant.Fells.transitionCharge {p q : Plant} {i : SlotIx} {d : Allotment → Term → Nat} {o : FallOutcome}
    (h : p.Fells q i d o) (hp : p.Sound) {j : SlotIx} (hj : j ≠ i) (e : Term → Nat) :
    q.transitionCharge (p.allot j).terms e = p.transitionCharge (p.allot j).terms e := by
  unfold Plant.transitionCharge Plant.costOf
  refine congrArg List.sum (List.map_congr_left fun t ht => ?_)
  simp only [h.chan hp hj (List.mem_map_of_mem ht)]

/-- The victims fall one after the other, each from the record it had before the first. -/
theorem Plant.fellsAll {act : Plant → SlotIx → Plant} {ok : Allotment → Prop} {d : Allotment → Term → Nat}
    {o : FallOutcome} {k : SlotIx}
    (hact : ∀ {p : Plant} {i : SlotIx}, p.Sound → i ≠ k → ok (p.allot i) → p.Fells (act p i) i d o)
    (vs : List Handle) {p : Plant} (hp : p.Sound) (hk : ∀ x ∈ vs, x.slot ≠ k) (hok : ∀ x ∈ vs, ok (p.allot x.slot))
    (hn : (vs.map Handle.slot).Nodup) : p.FellsAll (vs.foldl (fun q x => act q x.slot) p) vs d o := by
  induction vs generalizing p with
  | nil => exact .nil hp d o
  | cons v vs ih =>
    rw [List.map_cons, List.nodup_cons] at hn
    obtain ⟨hv, hnd⟩ := hn
    have h1 := hact hp (hk v List.mem_cons_self) (hok v List.mem_cons_self)
    have hne {x : Handle} (hx : x ∈ vs) : x.slot ≠ v.slot := fun h => hv (h ▸ List.mem_map_of_mem hx)
    have hsame {x : Handle} (hx : x ∈ vs) : (act p v.slot).allot x.slot = p.allot x.slot := by
      rw [h1.allots, if_neg (hne hx)]
    have hcharge {x : Handle} (hx : x ∈ vs) (e : Term → Nat) := h1.transitionCharge hp (hne hx) e
    have h2 := ih h1.sound (fun x hx => hk x (List.mem_cons_of_mem _ hx))
      (fun x hx => by rw [hsame hx]; exact hok x (List.mem_cons_of_mem _ hx)) hnd
    rw [List.foldl_cons]
    refine ⟨h2.sound, fun x hx => ?_, fun j hj => ?_, ?_, h2.grants.trans h1.grants, h2.stage.trans h1.stage,
      h2.levels.trans h1.levels, ?_, ?_⟩
    · rcases List.mem_cons.mp hx with rfl | hx
      · rw [h2.others _ hv, h1.allots, if_pos rfl]
      · rw [h2.victims x hx, hsame hx]
        unfold Plant.felled
        rw [hcharge hx]
    · rw [List.map_cons, List.mem_cons, not_or] at hj
      rw [h2.others j hj.2, h1.allots, if_neg hj.1]
    · rw [h2.queue, h1.queue, List.filter_filter]
      refine List.filter_congr fun e _ => ?_
      simp [Bool.and_comm]
    · rw [h2.out, h1.out, List.foldl_cons]
      exact List.foldl_ext _ _ _ fun out x hx => by rw [hsame hx]
    · have hacc := Plant.chargeSum_update h1.allots
      rw [← hp.accounts.2, ← h1.sound.accounts.2] at hacc
      have hc := h2.committed
      have hold : (vs.map fun x => ((act p v.slot).allot x.slot).charge) = vs.map fun x => (p.allot x.slot).charge :=
        List.map_congr_left fun x hx => by rw [hsame hx]
      have hnew : (vs.map fun x => (act p v.slot).transitionCharge ((act p v.slot).allot x.slot).terms
          (d ((act p v.slot).allot x.slot)))
          = vs.map fun x => p.transitionCharge (p.allot x.slot).terms (d (p.allot x.slot)) :=
        List.map_congr_left fun x hx => by rw [hsame hx, hcharge hx]
      rw [hold, hnew] at hc
      simp only [List.map_cons, List.sum_cons]
      change (act p v.slot).eng.committed + _ = _ + p.transitionCharge (p.allot v.slot).terms (d (p.allot v.slot)) at hacc
      omega

/-- The charges of distinct slots are part of the committed charge. -/
theorem Plant.Sound.charges_le {p : Plant} (hp : p.Sound) {vs : List Handle} (hn : (vs.map Handle.slot).Nodup) :
    (vs.map fun x => (p.allot x.slot).charge).sum ≤ p.eng.committed := by
  rw [hp.accounts.2, Plant.chargeSum]
  have hsub : (vs.map Handle.slot).Subperm allSlots := List.Nodup.subperm hn fun i _ => List.mem_finRange i
  obtain ⟨l, hl, hls⟩ := hsub
  have h1 := (hl.map fun i => (p.allot i).charge).sum_eq
  rw [List.map_map] at h1
  exact h1.symm.le.trans ((hls.map _).sum_le_sum fun _ _ => Nat.zero_le _)

end Sys2Proof.Machine
end

section
/-! An accepted CLAIM waits, is granted, or is staged (R19, R20, R53 to R63). -/

namespace Sys2Proof.Machine

/-! ### The plan of an entry (R58 to R61) -/

section Plan
variable {p : Plant} {eff : Nat} {o : Origin} {i : SlotIx}

/-- What falls in progress leave to be found for the entry of slot `i` (R58, R59). -/
def Plant.needBeyond (p : Plant) (eff : Nat) (i : SlotIx) : Nat :=
  (p.allot i).requestCost + p.eng.committed - eff - p.pendingRelease

/-- The victims of a reduction plan (R59). -/
def Plant.reductionVictims (p : Plant) (eff : Nat) (i : SlotIx) : Option (List Handle) :=
  takeVictims (fun h => (p.allot h.slot).requestCost - (p.allot h.slot).floorCost) (p.needBeyond eff i)
    (p.reductionCandidates (p.allot i).cls)

/-- The victims of a shedding plan (R60). -/
def Plant.sheddingVictims (p : Plant) (eff : Nat) (i : SlotIx) : Option (List Handle) :=
  takeVictims (fun h => (p.allot h.slot).charge) (p.needBeyond eff i) (p.sheddingCandidates (p.allot i).cls)

theorem Plant.plan_of_pending (h : p.needBeyond eff i = 0) : p.plan eff o i = some (p.stageEntry o i) := by
  unfold Plant.needBeyond at h
  unfold Plant.plan
  simp only
  rw [if_pos (by omega)]

theorem Plant.plan_of_reduction {vs : List Handle} (h : 0 < p.needBeyond eff i)
    (hr : p.reductionVictims eff i = some vs) :
    p.plan eff o i = some ((vs.foldl (fun q h => q.reduceVictim o h.slot) p).stageEntry o i) := by
  unfold Plant.needBeyond at h
  unfold Plant.reductionVictims Plant.needBeyond at hr
  unfold Plant.plan
  simp only
  rw [if_neg (by omega), hr]

theorem Plant.plan_of_shedding {vs : List Handle} (h : 0 < p.needBeyond eff i) (hr : p.reductionVictims eff i = none)
    (hs : p.sheddingVictims eff i = some vs) :
    p.plan eff o i = some ((vs.foldl (fun q h => q.shedVictim o h.slot) p).stageEntry o i) := by
  unfold Plant.needBeyond at h
  unfold Plant.reductionVictims Plant.needBeyond at hr
  unfold Plant.sheddingVictims Plant.needBeyond at hs
  unfold Plant.plan
  simp only
  rw [if_neg (by omega), hr]
  simp only [hs]

theorem Plant.plan_none (h : 0 < p.needBeyond eff i) (hr : p.reductionVictims eff i = none)
    (hs : p.sheddingVictims eff i = none) : p.plan eff o i = none := by
  unfold Plant.needBeyond at h
  unfold Plant.reductionVictims Plant.needBeyond at hr
  unfold Plant.sheddingVictims Plant.needBeyond at hs
  unfold Plant.plan
  simp only
  rw [if_neg (by omega), hr]
  simp only [hs]

end Plan

theorem takeVictims_congr {g g' : Handle → Nat} {l : List Handle} (h : ∀ x ∈ l, g x = g' x) (need : Nat) :
    takeVictims g need l = takeVictims g' need l := by
  induction l generalizing need with
  | nil => rfl
  | cons x r ih =>
    unfold takeVictims
    rw [h x List.mem_cons_self, ih fun y hy => h y (List.mem_cons_of_mem _ hy)]

/-- The candidates of a plan depend on the levels, the grant list and the records it names. -/
theorem Plant.candidates_congr {p q : Plant} (hl : q.eng.levels = p.eng.levels) (hg : q.eng.grants = p.eng.grants)
    (ha : ∀ x ∈ p.eng.grants, q.allot x.slot = p.allot x.slot) (c : ClassIx) :
    q.reductionCandidates c = p.reductionCandidates c ∧ q.sheddingCandidates c = p.sheddingCandidates c := by
  have hclass : ∀ x ∈ p.eng.grants, q.classOf x = p.classOf x := fun x hx => by unfold Plant.classOf; rw [ha x hx]
  have hgroup : (fun c => q.eng.grants.reverse.filter fun h => q.classOf h = c)
      = fun c => p.eng.grants.reverse.filter fun h => p.classOf h = c := funext fun c => by
    rw [hg]
    exact List.filter_congr fun x hx => by rw [hclass x (List.mem_reverse.mp hx)]
  have horder : q.victimOrder = p.victimOrder := by unfold Plant.victimOrder; rw [hl, hgroup]
  unfold Plant.reductionCandidates Plant.sheddingCandidates
  rw [horder, hl]
  constructor <;> refine List.filter_congr fun x hx => ?_ <;>
    rw [ha x (Plant.mem_victimOrder.mp hx), hclass x (Plant.mem_victimOrder.mp hx)]

/-! ### The head of the queue -/

/-- An entry that outranks the head of the queue joins in front of it. -/
theorem placeBack_head {p : Plant} {c : ClassIx} {h : Handle} {l : List Handle}
    (hl : ∀ e ∈ l.head?, ranksAbove p.eng.levels c (p.classOf e) = true) : placeBack p c h l = h :: l := by
  cases l with
  | nil => rfl
  | cons e r => rw [placeBack, if_pos (hl e rfl)]

/-! ### Staging (R62) -/

theorem Plant.stageEntry_frame (p : Plant) (o : Origin) (i : SlotIx) :
    let q := p.stageEntry o i
    q.eng.queue = (p.eng.queue.filter fun e => e.slot ≠ i) ∧ q.eng.grants = p.eng.grants
      ∧ q.eng.stage = some (p.handleOf i) ∧ q.eng.levels = p.eng.levels
      ∧ q.eng.committed = p.eng.committed - (p.allot i).charge ∧ q.out = p.out := by
  refine ⟨by simp [Plant.stageEntry, Plant.leaveQueue], by simp [Plant.stageEntry], by simp [Plant.stageEntry],
    by simp [Plant.stageEntry], ?_, by simp [Plant.stageEntry]⟩
  simp only [Plant.stageEntry, Plant.markChanged_committed]
  change p.eng.committed - (p.allot i).charge + 0 = _
  rfl

/-- What staging an entry of slot `i` on the falls of the victims `vs` leaves of the engine and the output stage (R62). -/
def Plant.StagedOn (p q : Plant) (i : SlotIx) (record : Allotment) (vs : List Handle) (d : Allotment → Term → Nat)
    (o : FallOutcome) : Prop :=
  q.eng = { p.eng with
    allots := q.eng.allots, binding := q.eng.binding
    queue := p.eng.queue.filter fun x => x ∉ vs, stage := some (p.handleOf i)
    committed := p.eng.committed - (vs.map fun x => (p.allot x.slot).charge).sum
      + (vs.map fun x => p.transitionCharge (p.allot x.slot).terms (d (p.allot x.slot))).sum }
  ∧ q.allot i = { record with state := .staged }
  ∧ (∀ x ∈ vs, q.allot x.slot = p.felled (p.allot x.slot) (d (p.allot x.slot)) o)
  ∧ (∀ j, j ≠ i → j ∉ vs.map Handle.slot → q.allot j = p.allot j)
  ∧ q.out = vs.foldl (fun o x =>
      o.command (p.allot x.slot).terms (d (p.allot x.slot)) ((p.allot x.slot).commandId + 1)) p.out

section Claim
variable {p : Plant} {c : ClientIx} {payload : List Byte} {i : SlotIx}

/-- A granted slot is another than the FREE one. -/
theorem Plant.listsOk.ne_free {p : Plant} {i : SlotIx} (hp : p.listsOk) (hs : (p.allot i).state = .free) {x : Handle}
    (hx : x ∈ p.eng.grants ∨ x ∈ p.eng.queue) : x.slot ≠ i := by
  rintro rfl
  rcases hx with hx | hx
  · have := hp.1.2.1.mem_iff_slot hx
    rw [hs] at this; cases this
  · have := hp.1.1.mem_iff_slot hx
    rw [hs] at this; cases this

/-- The falls of the victims, started in the event of the CLAIM, and then the staging of the new entry. -/
theorem Plant.stagedOn {r : Plant} {vs : List Handle} {d : Allotment → Term → Nat} {o : FallOutcome} (hp : p.Sound)
    (hs : (p.allot i).state = .free)
    (hq : (p.createAllotment c payload i).eng.queue = p.handleOf i :: p.eng.queue) (hvs : ∀ x ∈ vs, x ∈ p.eng.grants)
    (hn : (vs.map Handle.slot).Nodup) (hr : (p.createAllotment c payload i).FellsAll r vs d o) :
    p.StagedOn (r.stageEntry (.owner i) i) i (p.newRecord c payload i) vs d o := by
  have hne {x : Handle} (hx : x ∈ vs) : x.slot ≠ i := hp.lists.ne_free hs (.inl (hvs x hx))
  have hi : i ∉ vs.map Handle.slot := fun h => by
    obtain ⟨x, hx, hxi⟩ := List.mem_map.mp h
    exact hne hx hxi
  have hsame {x : Handle} (hx : x ∈ vs) : (p.createAllotment c payload i).allot x.slot = p.allot x.slot := by
    rw [Plant.allot_create, if_neg (hne hx)]
  have hri : r.allot i = p.newRecord c payload i := by rw [hr.others i hi, Plant.allot_create, if_pos rfl]
  have hcharge : (p.allot i).charge = 0 := (hp.accounts.1.values hs).2.2.2.1
  obtain ⟨-, -, hlev, hcom, -⟩ := Plant.createAllotment_frame (c := c) (payload := payload) hcharge
  obtain ⟨h1, h2, h3, h4, h5, h6⟩ := r.stageEntry_frame (.owner i) i
  refine ⟨?eng, ?slot, fun x hx => ?victims, fun j hj hjv => ?others, ?out⟩
  case eng =>
    refine (Engine.eq_of_levels (h4.trans (hr.levels.trans hlev))).trans ?_
    have hqueue : (r.eng.queue.filter fun e => e.slot ≠ i) = p.eng.queue.filter fun x => x ∉ vs := by
      rw [hr.queue, hq, List.filter_filter, List.filter_cons, if_neg (by simp [Plant.handleOf])]
      refine List.filter_congr fun e he => ?_
      have hei : e.slot ≠ i := hp.lists.ne_free hs (.inr he)
      have hiff : e.slot ∈ vs.map Handle.slot ↔ e ∈ vs := by
        refine ⟨fun h => ?_, List.mem_map_of_mem⟩
        obtain ⟨x, hx, hxe⟩ := List.mem_map.mp h
        rw [hp.lists.1.1.2.1 e he, ← hxe, ← hp.lists.1.2.1.2.1 x (hvs x hx)]; exact hx
      simp only [hiff, hei, ne_eq, not_false_eq_true, decide_true, Bool.true_and]
    have hstage : r.handleOf i = p.handleOf i := by unfold Plant.handleOf; rw [hri]; rfl
    have hcommitted : (r.stageEntry (.owner i) i).eng.committed =
        p.eng.committed - (vs.map fun x => (p.allot x.slot).charge).sum
          + (vs.map fun x => p.transitionCharge (p.allot x.slot).terms (d (p.allot x.slot))).sum := by
      have hc := hr.committed
      have hold : (vs.map fun x => ((p.createAllotment c payload i).allot x.slot).charge)
          = vs.map fun x => (p.allot x.slot).charge := List.map_congr_left fun x hx => by rw [hsame hx]
      have hnew : (vs.map fun x => (p.createAllotment c payload i).transitionCharge
            ((p.createAllotment c payload i).allot x.slot).terms (d ((p.createAllotment c payload i).allot x.slot)))
          = vs.map fun x => p.transitionCharge (p.allot x.slot).terms (d (p.allot x.slot)) :=
        List.map_congr_left fun x hx => by rw [hsame hx]; rfl
      rw [hold, hnew, hcom] at hc
      have hle := hp.charges_le hn
      rw [h5, hri]
      change _ - 0 = _
      omega
    rw [h1, h2, h3, hqueue, hcommitted, hstage, hr.grants]
    rfl
  case slot =>
    rw [Plant.allot_stageEntry, if_pos rfl, hri]
    have hterms : (claimTerms payload).map (fun t => { t with target := 0 }) = claimTerms payload := by
      refine (List.map_congr_left fun t ht => ?_).trans (List.map_id _)
      have := claimTerms_target ht
      cases t; simp_all
    simp [Allotment.halted, Plant.newRecord, Plant.claimRecord, Origin.spares, hterms]
  case victims =>
    rw [Plant.allot_stageEntry, if_neg (hne hx), hr.victims x hx, hsame hx]; rfl
  case others =>
    rw [Plant.allot_stageEntry, if_neg hj, hr.others j hjv, Plant.allot_create, if_neg hj]
  case out =>
    rw [h6, hr.out]
    exact List.foldl_ext _ _ _ fun out x hx => by rw [hsame hx]

end Claim

end Sys2Proof.Machine
end

section
/-! What the plan of a new entry reads is what the state before the CLAIM holds; then the statement on CLAIM. -/

namespace Sys2Proof.Machine

section Claim
variable {p : Plant} {c : ClientIx} {payload : List Byte} {i : SlotIx}

theorem Plant.pendingRelease_create (hs : (p.allot i).state = .free) :
    (p.createAllotment c payload i).pendingRelease = p.pendingRelease := by
  unfold Plant.pendingRelease
  refine congrArg List.sum (List.map_congr_left fun j _ => ?_)
  rw [Plant.allot_create]
  by_cases hj : j = i
  · subst hj
    rw [if_pos rfl, hs, show (p.newRecord c payload j).state = .waiting from rfl]
  · rw [if_neg hj]

/-- What is needed beyond the falls in progress for a new entry (R58). -/
theorem Plant.needBeyond_create (hs : (p.allot i).state = .free) (hc : (p.allot i).charge = 0) (eff : Nat) :
    (p.createAllotment c payload i).needBeyond eff i =
      p.eng.committed + p.requestCostOf (claimTerms payload) - eff - p.pendingRelease := by
  unfold Plant.needBeyond
  rw [Plant.pendingRelease_create hs, Plant.allot_create, if_pos rfl, (Plant.createAllotment_frame hc).2.2.2.1,
    Nat.add_comm]
  rfl

/-- The victims for a new entry are taken from the candidates and the records as the CLAIM finds them (R59, R60). -/
theorem Plant.victims_create (hp : p.listsOk) (hs : (p.allot i).state = .free) (eff : Nat) :
    let q := p.createAllotment c payload i
    q.reductionVictims eff i = takeVictims (fun x => (p.allot x.slot).requestCost - (p.allot x.slot).floorCost)
        (q.needBeyond eff i) (p.reductionCandidates (claimClass payload))
      ∧ q.sheddingVictims eff i = takeVictims (fun x => (p.allot x.slot).charge)
        (q.needBeyond eff i) (p.sheddingCandidates (claimClass payload)) := by
  intro q
  have hsame : ∀ x ∈ p.eng.grants, q.allot x.slot = p.allot x.slot := fun x hx => by
    rw [Plant.allot_create, if_neg (hp.ne_free hs (.inl hx))]
  have hcls : (q.allot i).cls = claimClass payload := by rw [Plant.allot_create, if_pos rfl]; rfl
  obtain ⟨h1, h2⟩ := Plant.candidates_congr (p := p) (q := q) rfl rfl hsame (claimClass payload)
  unfold Plant.reductionVictims Plant.sheddingVictims
  rw [hcls, h1, h2]
  exact ⟨takeVictims_congr (fun x hx => by rw [hsame x (mem_reductionCandidates.mp hx).1]) _,
    takeVictims_congr (fun x hx => by rw [hsame x (mem_sheddingCandidates.mp hx).1]) _⟩

/-- The event of a CLAIM that finds the stage empty and whose entry is the head of the queue (R53 to R61). -/
theorem Plant.claimAccepted_head {eff : Nat} {rest : List Handle} (hc : (p.allot i).charge = 0)
    (hst : p.eng.stage = none) (hq : (p.createAllotment c payload i).eng.queue = p.handleOf i :: rest) :
    p.claimAccepted eff c payload i =
      if eff < p.requestCostOf (claimTerms payload) then
        passWalk eff (.owner i) rest (p.createAllotment c payload i)
      else if p.eng.committed + p.requestCostOf (claimTerms payload) ≤ eff then
        passWalk eff (.owner i) rest ((p.createAllotment c payload i).grant (.owner i) i)
      else ((p.createAllotment c payload i).plan eff (.owner i) i).getD (p.createAllotment c payload i) := by
  have hrec : (p.createAllotment c payload i).allot (p.handleOf i).slot = p.newRecord c payload i := by
    rw [Plant.allot_create]; exact if_pos rfl
  have hstage : (p.createAllotment c payload i).eng.stage = none := hst
  have hpass : p.claimAccepted eff c payload i
      = passWalk eff (.owner i) (p.handleOf i :: rest) (p.createAllotment c payload i) := by
    rw [Plant.claimAccepted, Plant.passIf, hstage, ← hq]; rfl
  rw [hpass, passWalk_waiting (by rw [hrec]; rfl), hrec]
  simp only [Plant.fits, (Plant.createAllotment_frame (c := c) (payload := payload) hc).2.2.2.1, decide_eq_true_eq]
  rfl

theorem Plant.claimReply_eq {q : Plant} {st : AllotState} (hg : (q.allot i).generation = (p.allot i).generation)
    (hs : (q.allot i).state = st) :
    q.claimReply i = .okWith ((p.handleOf i).bytes ++ [byte st.code]) := by
  unfold Plant.claimReply Plant.handleOf
  rw [hg, hs]

/-- The engine of a CLAIM that waits. -/
theorem Plant.create_eng (hc : (p.allot i).charge = 0) :
    let q := p.createAllotment c payload i
    q.eng = { p.eng with allots := p.eng.allots.set i (p.newRecord c payload i), binding := q.eng.binding
                         queue := q.eng.queue } := by
  intro q
  obtain ⟨h1, h2, h3, h4, -⟩ := Plant.createAllotment_frame (c := c) (payload := payload) hc
  refine (Engine.eq_of_levels h3).trans ?_
  rw [Plant.allots_eq_set (p.allot_create c payload i), h1, h2, h4]

/-- The engine of a CLAIM granted in its event (R56). -/
theorem Plant.grant_eng (hc : (p.allot i).charge = 0)
    (hq : (p.createAllotment c payload i).eng.queue = [p.handleOf i]) (he : p.eng.queue = []) {q : Plant}
    (hgrant : q = (p.createAllotment c payload i).grant (.owner i) i) :
    let record := p.newRecord c payload i
    q.eng = { p.eng with
      allots := p.eng.allots.set i { record with
        terms := record.terms.map fun x => { x with target := x.requested }, state := .rising
        charge := p.transitionCharge record.terms (·.requested)
        commandId := record.commandId + 1, unsettled := record.terms.map Term.channel }
      binding := q.eng.binding, grants := p.eng.grants ++ [p.handleOf i]
      committed := p.eng.committed + p.transitionCharge record.terms (·.requested) } := by
  intro record
  obtain ⟨h1, h2, h3, h4, -⟩ := Plant.createAllotment_frame (c := c) (payload := payload) hc
  have hall : ∀ j, q.allot j = if j = i then { record with
      terms := record.terms.map fun x => { x with target := x.requested }, state := .rising
      charge := p.transitionCharge record.terms (·.requested)
      commandId := record.commandId + 1, unsettled := record.terms.map Term.channel } else p.allot j := fun j => by
    rw [hgrant, Plant.allot_grant, Plant.allot_topUp, Plant.allot_create, Plant.allot_create, if_pos rfl]
    split
    next =>
      simp [Origin.spares, Plant.inTransition, Plant.transitionState, record, Plant.newRecord, Plant.claimRecord]
      rfl
    next => rfl
  have hlev : q.eng.levels = p.eng.levels := by simp [hgrant, Plant.grant, h3]
  have hqueue : q.eng.queue = p.eng.queue := by
    simp [hgrant, Plant.grant, Plant.leaveQueue, hq, he, Plant.handleOf]
  have hgrants : q.eng.grants = p.eng.grants ++ [p.handleOf i] := by
    have hgen : ((((p.createAllotment c payload i).leaveQueue i).startTransition i (·.requested) none).allot i).generation
        = (p.allot i).generation := by
      rw [Plant.allot_startTransition, if_pos rfl, Plant.leaveQueue_allot, Plant.allot_create, if_pos rfl]; rfl
    simp [hgrant, Plant.grant, Plant.joinGrants, Plant.handleOf, hgen, h1]
  have hstage : q.eng.stage = p.eng.stage := by simp [hgrant, Plant.grant, h2]
  have hcom : q.eng.committed = p.eng.committed + p.transitionCharge record.terms (·.requested) := by
    have hrec : (p.createAllotment c payload i).allot i = record := by rw [Plant.allot_create, if_pos rfl]
    have : q.eng.committed = (p.createAllotment c payload i).eng.committed
        - ((p.createAllotment c payload i).allot i).charge
        + p.transitionCharge ((p.createAllotment c payload i).allot i).terms (·.requested) := by
      simp only [hgrant, Plant.grant, Plant.markChanged_committed, Plant.joinGrants_committed,
        Plant.startTransition_committed, Plant.leaveQueue_allot]
      rfl
    rw [this, hrec, h4]
    rfl
  refine (Engine.eq_of_levels hlev).trans ?_
  rw [Plant.allots_eq_set hall, hqueue, hgrants, hstage, hcom]

end Claim

end Sys2Proof.Machine
end

section
/-! A CLAIM that is not within available: what the plan of its entry comes to (R58 to R62). -/

namespace Sys2Proof.Machine

/-- With the stage empty and every queued entry of lower rank, the new entry is the head of the queue. -/
theorem Plant.createAllotment_head {p : Plant} {c : ClientIx} {payload : List Byte} {i : SlotIx} (hp : p.listsOk)
    (hs : (p.allot i).state = .free) (h : ∀ x ∈ p.eng.queue, p.outranks (claimClass payload) (p.classOf x)) :
    (p.createAllotment c payload i).eng.queue = p.handleOf i :: p.eng.queue := by
  rw [Plant.createAllotment_queue]
  refine placeBack_head fun x hx => ?_
  have hx' : x ∈ p.eng.queue := List.mem_of_mem_head? hx
  have hcls : (p.createAllotment c payload i).classOf x = p.classOf x := by
    unfold Plant.classOf
    rw [Plant.allot_create, if_neg (hp.ne_free hs (.inr hx'))]
  rw [hcls]
  exact Plant.outranks_iff.mp (h x hx')

/-- The queue with a new entry of a class at the back of its rank (R46). -/
theorem Plant.createAllotment_queuedAtBack {p : Plant} {c : ClientIx} {payload : List Byte} {i : SlotIx} (hp : p.listsOk)
    (hs : (p.allot i).state = .free) :
    p.queuedAtBack (claimClass payload) (p.handleOf i) p.eng.queue (p.createAllotment c payload i).eng.queue := by
  have hcls : ∀ x ∈ p.eng.queue, (p.createAllotment c payload i).classOf x = p.classOf x := fun x hx => by
    unfold Plant.classOf
    rw [Plant.allot_create, if_neg (hp.ne_free hs (.inr hx))]
  obtain ⟨pre, post, hsplit, hplace, hpre, hpost⟩ :=
    placeBack_split (p.createAllotment c payload i) (claimClass payload) (p.handleOf i) p.eng.queue
  have hord : p.ordered post := (List.pairwise_append.mp (hsplit ▸ hp.2 : p.ordered (pre ++ post))).2.1
  refine ⟨pre, post, hsplit, (p.createAllotment_queue c payload i).trans hplace, fun x hx => ?_, fun x hx => ?_⟩
  · have := hpre x hx
    rw [hcls x (hsplit ▸ List.mem_append_left _ hx)] at this
    rw [Plant.outranks_iff]
    exact (Bool.eq_false_iff.mp this)
  · rw [Plant.outranks_iff]
    cases post with
    | nil => cases hx
    | cons e r =>
      have he : ranksAbove p.eng.levels (claimClass payload) (p.classOf e) = true := by
        rw [← hcls e (hsplit ▸ List.mem_append_right _ List.mem_cons_self)]
        exact hpost e rfl
      rcases List.mem_cons.mp hx with rfl | hx
      · exact he
      · by_contra hne
        rw [ranksAbove_false_trans (by simpa using hne) ((List.pairwise_cons.mp hord).1 x hx)] at he
        cases he

/-- `vs` are the reductions that give `need` for an entry of class `c` (R59). -/
def Plant.reducible (p : Plant) (c : ClassIx) (need : Nat) (vs : List Handle) : Prop :=
  takenInOrder p.lostBefore (fun x => x ∈ p.eng.grants ∧ (p.allot x.slot).state = .running
      ∧ (p.allot x.slot).floor.isSome = true ∧ p.outranks c (p.classOf x))
    (fun x => (p.allot x.slot).requestCost - (p.allot x.slot).floorCost) need vs

/-- `vs` are the sheddings that give `need` for an entry of class `c` (R60). -/
def Plant.sheddable (p : Plant) (c : ClassIx) (need : Nat) (vs : List Handle) : Prop :=
  takenInOrder p.lostBefore (fun x => x ∈ p.eng.grants ∧ ((p.allot x.slot).state = .rising
      ∨ (p.allot x.slot).state = .running ∨ (p.allot x.slot).state = .reduced) ∧ p.outranks c (p.classOf x))
    (fun x => (p.allot x.slot).charge) need vs

/-- A CLAIM that is not within available, whose entry is the head of the queue, with the stage empty. -/
structure Plant.ClaimShort (p : Plant) (eff : Nat) (c : ClientIx) (payload : List Byte) (i : SlotIx) : Prop where
  sound : p.Sound
  created : (p.createAllotment c payload i).Sound
  free : (p.allot i).state = .free
  stage : p.eng.stage = none
  first : ∀ x ∈ p.eng.queue, p.outranks (claimClass payload) (p.classOf x)
  within : p.requestCostOf (claimTerms payload) ≤ eff
  short : eff < p.eng.committed + p.requestCostOf (claimTerms payload)

namespace Plant.ClaimShort

variable {p : Plant} {eff : Nat} {c : ClientIx} {payload : List Byte} {i : SlotIx} {vs : List Handle}

theorem charge (h : p.ClaimShort eff c payload i) : (p.allot i).charge = 0 :=
  (h.sound.accounts.1.values h.free).2.2.2.1

theorem queue (h : p.ClaimShort eff c payload i) :
    (p.createAllotment c payload i).eng.queue = p.handleOf i :: p.eng.queue :=
  Plant.createAllotment_head h.sound.lists h.free h.first

theorem accepted (h : p.ClaimShort eff c payload i) : p.claimAccepted eff c payload i =
    ((p.createAllotment c payload i).plan eff (.owner i) i).getD (p.createAllotment c payload i) :=
  (Plant.claimAccepted_head h.charge h.stage h.queue).trans (by
    rw [if_neg (Nat.not_lt.mpr h.within), if_neg (Nat.not_le.mpr h.short)])

/-- The falls in progress give enough (R58). -/
theorem of_pending (h : p.ClaimShort eff c payload i)
    (hn : p.eng.committed + p.requestCostOf (claimTerms payload) - eff ≤ p.pendingRelease) :
    p.StagedOn (p.claimAccepted eff c payload i) i (p.newRecord c payload i) [] (fun _ _ => 0) .waiting := by
  have hneed := Plant.needBeyond_create (c := c) (payload := payload) h.free h.charge eff
  rw [h.accepted, Plant.plan_of_pending (by omega)]
  exact Plant.stagedOn h.sound h.free h.queue (by simp) List.nodup_nil (.nil h.created _ _)

/-- Candidates taken in victim order are of distinct slots, none of them that of the new entry. -/
theorem victims_slots (h : p.ClaimShort eff c payload i) (hpre : vs.Sublist p.victimOrder) : (vs.map Handle.slot).Nodup
    ∧ (∀ x ∈ vs, x ∈ p.eng.grants) ∧ (∀ x ∈ vs, x.slot ≠ i)
    ∧ ∀ x ∈ vs, (p.createAllotment c payload i).allot x.slot = p.allot x.slot := by
  have hgr : ∀ x ∈ vs, x ∈ p.eng.grants := fun x hx => Plant.mem_victimOrder.mp (hpre.subset hx)
  have hne : ∀ x ∈ vs, x.slot ≠ i := fun x hx => h.sound.lists.ne_free h.free (.inl (hgr x hx))
  exact ⟨(Plant.victimOrder_nodup h.sound.lists.distinct).sublist (hpre.map _), hgr, hne, fun x hx => by
    rw [Plant.allot_create, if_neg (hne x hx)]⟩

section Victims
variable (h : p.ClaimShort eff c payload i)
  (hn : p.pendingRelease < p.eng.committed + p.requestCostOf (claimTerms payload) - eff)
include h hn

theorem needBeyond : (p.createAllotment c payload i).needBeyond eff i
      = p.eng.committed + p.requestCostOf (claimTerms payload) - eff - p.pendingRelease
    ∧ 0 < (p.createAllotment c payload i).needBeyond eff i := by
  have hneed := Plant.needBeyond_create (c := c) (payload := payload) h.free h.charge eff
  exact ⟨hneed, by omega⟩

theorem reducible_iff : p.reducible (claimClass payload)
      (p.eng.committed + p.requestCostOf (claimTerms payload) - eff - p.pendingRelease) vs
    ↔ (p.createAllotment c payload i).reductionVictims eff i = some vs := by
  obtain ⟨hneed, hpos⟩ := h.needBeyond hn
  rw [(Plant.victims_create h.sound.lists h.free eff).1, hneed]
  exact Plant.takes_reductions_iff h.sound.lists (hneed ▸ hpos)

theorem sheddable_iff : p.sheddable (claimClass payload)
      (p.eng.committed + p.requestCostOf (claimTerms payload) - eff - p.pendingRelease) vs
    ↔ (p.createAllotment c payload i).sheddingVictims eff i = some vs := by
  obtain ⟨hneed, hpos⟩ := h.needBeyond hn
  rw [(Plant.victims_create h.sound.lists h.free eff).2, hneed]
  exact Plant.takes_sheddings_iff h.sound.lists (hneed ▸ hpos)

/-- The entry is staged on reductions to the floor duties (R59). -/
theorem of_reducible {d : Allotment → Term → Nat} (hd : ∀ a u, d a u = a.floorDutyOf u) (hv : p.reducible (claimClass payload)
      (p.eng.committed + p.requestCostOf (claimTerms payload) - eff - p.pendingRelease) vs) :
    p.StagedOn (p.claimAccepted eff c payload i) i (p.newRecord c payload i) vs d .reduced := by
  obtain rfl : d = Allotment.floorDutyOf := funext₂ hd
  have htake := (h.reducible_iff hn).mp hv
  have hpre := takeVictims_prefix ((Plant.victims_create h.sound.lists h.free eff).1 ▸ htake)
  obtain ⟨hnd, hgr, hne, hsame⟩ := h.victims_slots (hpre.sublist.trans List.filter_sublist)
  rw [h.accepted, Plant.plan_of_reduction (h.needBeyond hn).2 htake]
  refine Plant.stagedOn h.sound h.free h.queue hgr hnd (Plant.fellsAll (act := fun q j => q.reduceVictim (.owner i) j)
    (ok := fun a => a.state = .running ∧ a.floor.isSome = true)
    (fun hp hk hs => Plant.reduceVictim_fells hp hk hs) vs h.created hne (fun x hx => ?_) hnd)
  obtain ⟨-, hrun, hfl, -⟩ := mem_reductionCandidates.mp (hpre.subset hx)
  rw [hsame x hx]
  exact ⟨hrun, hfl⟩

/-- The entry is staged on sheddings (R60). -/
theorem of_sheddable (hr : (p.createAllotment c payload i).reductionVictims eff i = none)
    (hv : p.sheddable (claimClass payload)
      (p.eng.committed + p.requestCostOf (claimTerms payload) - eff - p.pendingRelease) vs) :
    p.StagedOn (p.claimAccepted eff c payload i) i (p.newRecord c payload i) vs (fun _ _ => 0) .waiting := by
  have htake := (h.sheddable_iff hn).mp hv
  have hpre := takeVictims_prefix ((Plant.victims_create h.sound.lists h.free eff).2 ▸ htake)
  obtain ⟨hnd, hgr, hne, hsame⟩ := h.victims_slots (hpre.sublist.trans List.filter_sublist)
  rw [h.accepted, Plant.plan_of_shedding (h.needBeyond hn).2 hr htake]
  refine Plant.stagedOn h.sound h.free h.queue hgr hnd (Plant.fellsAll (act := fun q j => q.shedVictim (.owner i) j)
    (ok := fun a => a.state.sheddable = true) (fun hp hk hs => Plant.shedVictim_fells hp hk hs) vs h.created hne
    (fun x hx => ?_) hnd)
  obtain ⟨-, hsh, -⟩ := mem_sheddingCandidates.mp (hpre.subset hx)
  rw [hsame x hx]
  exact hsh

/-- Where no source suffices the entry waits (R61). -/
theorem of_none (hr : (p.createAllotment c payload i).reductionVictims eff i = none)
    (hs : (p.createAllotment c payload i).sheddingVictims eff i = none) :
    p.claimAccepted eff c payload i = p.createAllotment c payload i := by
  rw [h.accepted, Plant.plan_none (h.needBeyond hn).2 hr hs]; rfl

end Victims

end Plant.ClaimShort

end Sys2Proof.Machine
end

section
/-! The statement on accepted CLAIMs. -/

open Sys2Proof Sys2Proof.Machine in
/-- Settles O20: the creation of the entry, then the branch of the pass that its cost and the queue lead to; the victims of
a plan are those `takenInOrder` names. -/
theorem acceptedClaimWaitsIsGrantedOrStaged : Obligations.AcceptedClaimWaitsIsGrantedOrStaged := by
  intro s c p i hpass hclear e h cls terms cost record
  have hs : (s.plant.allot i).state = .free := Plant.lowestFree_free hpass.2.2.2.2.2.2.2.2
  have hcharge : (s.plant.allot i).charge = 0 := (hclear.values hs).2.2.2.1
  let p1 := s.plant.createAllotment c p i
  let q := s.plant.claimAccepted s.lim.effective c p i
  obtain ⟨hbind, hclients⟩ := (Plant.passIf_chain p1 s.lim.effective (.owner i) true).frame
  have answer {st : AllotState} (hg : (q.allot i).generation = (s.plant.allot i).generation)
      (hst : (q.allot i).state = st) :
      State.answered { s with plant := q } .claim (.client c) p (q.claimReply i)
        = State.answered { s with plant := q } .claim (.client c) p (.okWith (h.bytes ++ [byte st.code])) := by
    rw [Plant.claimReply_eq hg hst]
  -- The CLAIM waits: nothing but the creation.
  have waits {queue : List Handle} (hq : q = p1) (hqueue : p1.eng.queue = queue) :
      State.answered { s with plant := q } .claim (.client c) p (q.claimReply i)
          = State.answered { s with plant := q } .claim (.client c) p (.okWith (h.bytes ++ [1]))
        ∧ q.out = s.plant.out
        ∧ q.eng = { e with allots := e.allots.set i record, binding := q.eng.binding, queue := queue } := by
    have hrec : p1.allot i = s.plant.newRecord c p i := by rw [Plant.allot_create, if_pos rfl]
    refine ⟨answer (st := .waiting) (by rw [hq, hrec]; rfl) (by rw [hq, hrec]; rfl), by rw [hq]; rfl, ?_⟩
    rw [hq, ← hqueue]
    exact Plant.create_eng hcharge
  refine ⟨_, hpass.exec, fun n => ?binding, ?clients, fun hocc => ?occupied, fun hst hq habove => ?above,
    fun hst hq hfit => ?granted, fun hb hst hq hle hlt => ?staged⟩
  case binding =>
    change q.eng.binding[n] = _
    rw [show q.eng.binding = p1.eng.binding from hbind]
    exact Plant.createAllotment_binding _ _ _ _ n
  case clients => exact hclients.trans (Plant.createAllotment_clients _ _ _ _)
  case occupied =>
    have hq : q = p1 := Plant.passIf_occupied _ _ _ _ hocc
    refine ⟨waits hq ?_, fun hl ho => ?_⟩
    · rw [Plant.createAllotment_queue]
      exact congrArg (fun r : Plant => placeBack r cls h e.queue) hq.symm
    · have := Plant.createAllotment_queuedAtBack (c := c) (payload := p) ⟨hl, ho⟩ hs
      change s.plant.queuedAtBack _ _ _ q.eng.queue
      rw [hq]; exact this
  case above =>
    have hqueue : p1.eng.queue = [h] := by rw [Plant.createAllotment_queue, hq]; rfl
    exact waits ((Plant.claimAccepted_head hcharge hst hqueue).trans (by rw [if_pos habove]; rfl)) hqueue
  case granted =>
    have hqueue : p1.eng.queue = [h] := by rw [Plant.createAllotment_queue, hq]; rfl
    have hq' : q = p1.grant (.owner i) i := (Plant.claimAccepted_head hcharge hst hqueue).trans (by
      rw [if_neg (Nat.not_lt.mpr ((Nat.le_add_left _ _).trans hfit)), if_pos hfit]; rfl)
    have hrec := ((p1.allot_grant (.owner i) i i).trans (p1.allot_topUp (.owner i) i i)).trans (if_pos rfl)
    have hnew : p1.allot i = s.plant.newRecord c p i := by rw [Plant.allot_create, if_pos rfl]
    refine ⟨answer (st := .rising) (by rw [hq', hrec, hnew]; rfl) (by rw [hq', hrec]; rfl), ?_, ?_⟩
    · change q.out = _
      rw [hq']
      simp only [Plant.grant, Plant.markChanged_out, Plant.joinGrants_out, Plant.startTransition_out,
        Plant.leaveQueue_out, Plant.leaveQueue_allot, hnew]
      rfl
    · exact Plant.grant_eng hcharge hqueue hq hq'
  case staged =>
    intro need pending reducible sheddable staged
    obtain ⟨hw, -⟩ := State.budgetSound_iff.mp hb
    have hshort : s.plant.ClaimShort s.lim.effective c p i :=
      ⟨hw.sound, (hpass.within hw).sound, hs, hst, hq, hle, hlt⟩
    have hpending : s.plant.pendingRelease = pending := congrArg List.sum (List.map_congr_left fun j _ => by
      cases (s.plant.allot j).state with
      | falling o => cases o <;> rfl
      | _ => rfl)
    have onStage {vs : List Handle} {d : Allotment → Term → Nat} {o : FallOutcome}
        (hon : s.plant.StagedOn q i (s.plant.newRecord c p i) vs d o) : staged vs d o :=
      ⟨answer (st := .staged) (by rw [hon.2.1]; rfl) (by rw [hon.2.1]), hon⟩
    clear_value staged
    refine ⟨fun hnp => onStage (hshort.of_pending (hpending ▸ hnp)), fun hpn => ?_⟩
    have hn : s.plant.pendingRelease < s.plant.eng.committed + s.plant.requestCostOf (claimTerms p) - s.lim.effective :=
      hpending ▸ hpn
    have hred (vs : List Handle) : reducible vs ↔ p1.reductionVictims s.lim.effective i = some vs := by
      rw [← hshort.reducible_iff hn, hpending]; rfl
    have hshed (vs : List Handle) : sheddable vs ↔ p1.sheddingVictims s.lim.effective i = some vs := by
      rw [← hshort.sheddable_iff hn, hpending]; rfl
    clear_value reducible sheddable
    refine ⟨fun vs hvs => ?reductions, fun hnr => ?_⟩
    case reductions =>
      refine onStage (hshort.of_reducible hn (fun a u => ?_) ((hshort.reducible_iff hn).mpr ((hred vs).mp hvs)))
      unfold Allotment.floorDutyOf
      cases a.floor <;> rfl
    have hr : p1.reductionVictims s.lim.effective i = none :=
      Option.eq_none_iff_forall_ne_some.mpr fun vs hvs => hnr vs ((hred vs).mpr hvs)
    refine ⟨fun vs hvs => onStage (hshort.of_sheddable hn hr ((hshort.sheddable_iff hn).mpr ((hshed vs).mp hvs))),
      fun hns => waits (hshort.of_none hn hr ?_) hshort.queue⟩
    exact Option.eq_none_iff_forall_ne_some.mpr fun vs hvs => hns vs ((hshed vs).mpr hvs)
end

section
/-! The limit unit by itself: what each kind of step makes of the effective ceiling, the hold timer and the derate state,
and what a recomputation of the ceiling brings about. -/

namespace Sys2Proof.Machine

/-- A reset leaves the limit unit at the values of R25, which agree with SETUP and with DERATEn. -/
theorem LimitUnit.reset_sound (low : Bool) :
    (LimitUnit.reset low).effective = (LimitUnit.reset low).effectiveFor .setup
      ∧ ((LimitUnit.reset low).holdTimer.isSome = true ↔ (LimitUnit.reset low).derate = .holding)
      ∧ ((LimitUnit.reset low).derate = .derated ↔ low = true) := by
  cases low <;> simp [LimitUnit.reset, LimitUnit.effectiveFor]

/-- A part that a valid supply lets run was running before the supply became valid (R177). -/
theorem State.derateSound.inReset_of_supply {s t : State} (h : s.derateSound) (hc : t.ctl = s.ctl)
    (hp : t.pins = { s.pins with supplyOk := true }) (ht : t.inReset = false) : s.inReset = false := by
  obtain ⟨hsup, -⟩ := h
  simp only [State.inReset, hc, hp, Bool.or_eq_false_iff] at ht ⊢
  obtain ⟨⟨-, hpend⟩, hpin⟩ := ht
  refine ⟨⟨?_, hpend⟩, hpin⟩
  cases hv : s.pins.supplyOk with
  | true => rfl
  | false => rw [hsup hv] at hpend; cases hpend

/-- Every kind of step leaves the limit unit in agreement with the part state and the pins (R25 to R30). -/
theorem State.Effect.limitsSound {s t : State} (h : s.Effect t) (hs : s.limitsSound) : t.limitsSound := by
  obtain ⟨⟨heff, htimer⟩, hsup, hder⟩ := hs
  cases h with
  | acts _ hlim hk => exact hk.limitsSound hlim ⟨⟨heff, htimer⟩, hsup, hder⟩
  | claim _ _ _ _ _ hlim hk => exact hk.limitsSound hlim ⟨⟨heff, htimer⟩, hsup, hder⟩
  | channel _ _ _ _ _ _ _ hlim hk => exact hk.limitsSound hlim ⟨⟨heff, htimer⟩, hsup, hder⟩
  | configured _ _ _ _ _ hlim hk => exact hk.limitsSound hlim ⟨⟨heff, htimer⟩, hsup, hder⟩
  | relimit s' hr h _ hlim hk =>
    obtain ⟨h1, h2⟩ := h.sound hr ⟨⟨heff, htimer⟩, hsup, hder⟩
    have hk' : s'.recompute.Keeps t := by
      rw [State.recompute_frame]
      exact ⟨hk.part, hk.pending, hk.derateLow, hk.supplyOk, hk.resetnHigh⟩
    exact hk'.limitsSound hlim (State.recompute_limitsSound h1 h2)
  | rederate s' hr h _ hlim hk =>
    exact hk.limitsSound hlim (h.sound hr ⟨⟨heff, htimer⟩, hsup, hder⟩).1
  | halt _ hlim hk =>
    refine ⟨⟨by rw [hk.part, hlim]; rfl, by rw [hlim]; exact htimer⟩, ?_⟩
    simp only [State.derateSound, State.inReset, hk.pending, hk.derateLow, hk.supplyOk, hk.resetnHigh, hlim]
    exact ⟨hsup, hder⟩
  | reset _ hlim hpart hv =>
    obtain ⟨h1, h2, h3⟩ := LimitUnit.reset_sound t.pins.derateLow
    refine ⟨⟨by rw [hlim, hpart]; exact h1, by rw [hlim]; exact h2⟩, fun hf => ?_, fun _ => by rw [hlim]; exact h3⟩
    rcases hv with hv | hv | ⟨hpend, hv⟩
    · rw [hf] at hv; cases hv
    · exact hv
    · rw [hpend]; exact hsup (hv ▸ hf)
  | held _ hlim hc hr hv =>
    refine ⟨by simpa only [State.ceilingSound, hlim, hc] using ⟨heff, htimer⟩, fun hf => ?_, fun hf => ?_⟩
    · rw [hc]; exact hsup (hv ▸ hf)
    · rw [hr] at hf; cases hf
  | supply _ hlim hc hp =>
    refine ⟨by simpa only [State.ceilingSound, hlim, hc] using ⟨heff, htimer⟩, fun hf => ?_, fun hf => ?_⟩
    · rw [hp] at hf; cases hf
    · rw [hlim, hp]
      exact hder (State.derateSound.inReset_of_supply ⟨hsup, hder⟩ hc hp hf)

end Sys2Proof.Machine

open Sys2Proof Sys2Proof.Machine in
/-- Settles O10: every kind of step keeps the limit unit in agreement with the part state and the pins. -/
theorem limitUnitStaysSound : Obligations.LimitUnitStaysSound := by
  intro s t hs h
  rcases step_effect h with rfl | ⟨rest, he⟩
  · exact hs
  · exact he.limitsSound hs
end

section
/-! The charges of settled and idle allotments by themselves (R33, R62): what each act leaves in the slot it acts on, and
that the stage names a STAGED allotment. The wait queue and the grant list may be any lists here. -/

namespace Sys2Proof.Machine

/-! ### The records that the acts leave -/

theorem Allotment.freed_fits (a : Allotment) : a.freed.chargeFits := by
  simp [Allotment.chargeFits, Allotment.freed, Allotment.reset]

/-- A record with charge 0 outside RUNNING and REDUCED holds the charge of its state, whichever that is (R33). -/
theorem Allotment.chargeFits_of_zero {a : Allotment} (hc : a.charge = 0) (hr : a.state ≠ .running)
    (hd : a.state ≠ .reduced) : a.chargeFits := ⟨fun _ => hc, fun h => absurd h hr, fun h => absurd h hd⟩

theorem Allotment.fallen_fits (a : Allotment) (o : FallOutcome) : (a.fallen o).chargeFits := by
  cases o with
  | free => exact a.freed_fits
  | waiting => exact Allotment.chargeFits_of_zero rfl (by simp [Allotment.fallen]) (by simp [Allotment.fallen])
  | reduced => exact ⟨by simp [Allotment.fallen], by simp [Allotment.fallen], fun _ => rfl⟩
  | running => exact ⟨by simp [Allotment.fallen], fun _ => rfl, by simp [Allotment.fallen]⟩

theorem Allotment.fallen_ne_staged (a : Allotment) (o : FallOutcome) : (a.fallen o).state ≠ .staged := by
  cases o <;> simp [Allotment.fallen, Allotment.freed, Allotment.reset]

/-- An idle record that stays idle holds charge 0 still (R33). -/
theorem Allotment.chargeFits.idle {a b : Allotment} (h : a.chargeFits) (ha : a.state.idle = true)
    (hb : b.state.idle = true) (hc : b.charge = a.charge) : b.chargeFits := by
  have hzero : a.charge = 0 := h.1 (by cases hs : a.state <;> simp_all [AllotState.idle])
  refine Allotment.chargeFits_of_zero (hc.trans hzero) ?_ ?_ <;> intro hs <;> rw [hs] at hb <;> cases hb

theorem Allotment.trippedFrom_fits {a : Allotment} (h : a.chargeFits) : a.trippedFrom.chargeFits := by
  have cut : (a.cutTo .tripped).chargeFits :=
    Allotment.chargeFits_of_zero rfl (by simp [Allotment.cutTo]) (by simp [Allotment.cutTo])
  cases hs : a.state with
  | free => simpa only [Allotment.trippedFrom, hs] using h
  | tripped => simpa only [Allotment.trippedFrom, hs] using h
  | waiting =>
    simp only [Allotment.trippedFrom, hs]
    exact h.idle (by rw [hs]; rfl) rfl rfl
  | staged =>
    simp only [Allotment.trippedFrom, hs]
    exact h.idle (by rw [hs]; rfl) rfl rfl
  | rising => simpa only [Allotment.trippedFrom, hs] using cut
  | running => simpa only [Allotment.trippedFrom, hs] using cut
  | reduced => simpa only [Allotment.trippedFrom, hs] using cut
  | falling o =>
    cases o with
    | free => simpa only [Allotment.trippedFrom, hs] using a.freed_fits
    | waiting => simpa only [Allotment.trippedFrom, hs] using cut
    | reduced => simpa only [Allotment.trippedFrom, hs] using cut
    | running => simpa only [Allotment.trippedFrom, hs] using cut

theorem Allotment.trippedFrom_ne_staged (a : Allotment) : a.trippedFrom.state ≠ .staged := by
  unfold Allotment.trippedFrom
  split <;> simp_all [Allotment.freed, Allotment.reset, Allotment.cutTo]

/-! ### The freeing of a slot, field by field -/

@[simp] theorem Plant.freeSlot_committed (p : Plant) (i : SlotIx) :
    (p.freeSlot i).eng.committed = p.eng.committed - (p.allot i).charge := (p.freeSlot_frame i).1
@[simp] theorem Plant.freeSlot_queue (p : Plant) (i : SlotIx) : (p.freeSlot i).eng.queue = p.eng.queue :=
  (p.freeSlot_frame i).2.1
@[simp] theorem Plant.freeSlot_grants (p : Plant) (i : SlotIx) : (p.freeSlot i).eng.grants = p.eng.grants :=
  (p.freeSlot_frame i).2.2.1
@[simp] theorem Plant.freeSlot_stage (p : Plant) (i : SlotIx) : (p.freeSlot i).eng.stage = p.eng.stage :=
  (p.freeSlot_frame i).2.2.2.1
@[simp] theorem Plant.freeSlot_levels (p : Plant) (i : SlotIx) : (p.freeSlot i).eng.levels = p.eng.levels :=
  (p.freeSlot_frame i).2.2.2.2.1

/-! ### An event of one slot -/

/-- An event of one slot keeps the law of charges, when the record it leaves holds the charge of its state and the stage
moves as that state says. -/
theorem Plant.chargeLaw.update {p q : Plant} {i : SlotIx} {a : Allotment} (hp : p.chargeLaw)
    (ha : ∀ j, q.allot j = if j = i then a else p.allot j) (hf : a.chargeFits) (hs : p.StageMove q i a) :
    q.chargeLaw := by
  obtain ⟨hstage, hfits⟩ := hp
  refine ⟨fun h hh => ?_, fun j => ?_⟩
  · rw [ha]
    cases hs with
    | stays he hn _ =>
      have hst := hstage h (he ▸ hh)
      rw [if_neg (by rintro rfl; exact hn hst)]
      exact hst
    | empties he => rw [he] at hh; cases hh
    | fills he _ hst =>
      rw [he] at hh
      cases hh
      exact (congrArg Allotment.state (if_pos rfl)).trans hst
    | keeps he hst =>
      have hst' := hstage h (he ▸ hh)
      split
      next heq => rw [hst, ← heq]; exact hst'
      next => exact hst'
  · rw [ha]
    split
    · exact hf
    · exact hfits j

theorem Plant.inTransition_moving (p : Plant) (a : Allotment) (d : Term → Nat) (oc : Option FallOutcome) :
    (p.inTransition a d oc).state.moving = true := p.transitionState_moving a.terms d oc

/-- A transition of a slot outside the stage keeps the law: in transition no state fixes the charge (R33, R69). -/
theorem Plant.chargeLaw.moving {p q : Plant} {i : SlotIx} {a : Allotment} (hp : p.chargeLaw)
    (ha : ∀ j, q.allot j = if j = i then a else p.allot j) (hm : a.state.moving = true)
    (he : q.eng.stage = p.eng.stage) (hn : (p.allot i).state ≠ .staged) : q.chargeLaw :=
  hp.update ha (Allotment.chargeFits_of_moving hm) (.stays he hn (AllotState.lists_of_moving hm).2.2)

/-- A write that keeps state, charge and costs of one record keeps the law. -/
theorem Plant.chargeLaw.same {p q : Plant} {i : SlotIx} {a : Allotment} (hp : p.chargeLaw)
    (ha : ∀ j, q.allot j = if j = i then a else p.allot j) (hs : a.state = (p.allot i).state)
    (hc : a.charge = (p.allot i).charge) (hr : a.requestCost = (p.allot i).requestCost)
    (hf : a.floor = (p.allot i).floor) (he : q.eng.stage = p.eng.stage) : q.chargeLaw := by
  refine hp.update ha ?_ (.keeps he hs)
  have hfit := hp.2 i
  simpa only [Allotment.chargeFits, Allotment.floorCost, hs, hc, hr, hf] using hfit

/-- What moves no record and no stage keeps the law. -/
theorem Plant.chargeLaw.congr {p q : Plant} (hp : p.chargeLaw) (ha : ∀ j, q.allot j = p.allot j)
    (he : q.eng.stage = p.eng.stage) : q.chargeLaw := by
  simpa only [Plant.chargeLaw, ha, he] using hp

/-! ### The acts -/

theorem Plant.PassAct.chargeLaw {eff : Nat} {o : Origin} {p q : Plant} (h : Plant.PassAct eff o p q)
    (hp : p.chargeLaw) : q.chargeLaw := by
  cases h with
  | topUp i hs _ => exact hp.moving (p.allot_topUp o i) rfl (by simp [Plant.topUp]) (by simp [hs])
  | grant i hs _ =>
    exact hp.moving (fun j => (p.allot_grant o i j).trans (p.allot_topUp o i j)) rfl (by simp [Plant.grant])
      (by simp [hs])
  | reduce i hn _ _ =>
    exact hp.moving (p.allot_reduceVictim o i) (p.inTransition_moving _ (p.allot i).floorDutyOf (some .reduced))
      (by simp [Plant.reduceVictim]) (AllotState.ne_staged_of_granted hn)
  | shed i hn _ =>
    exact hp.moving (p.allot_shedVictim o i) (p.inTransition_moving (p.allot i) (fun _ => 0) (some .waiting))
      (by simp [Plant.shedVictim]) (AllotState.ne_staged_of_granted hn)
  | stage i _ he =>
    exact hp.update (p.allot_stageEntry o i) (Allotment.chargeFits_of_zero rfl (by simp) (by simp))
      (.fills (by simp [Plant.stageEntry]) he rfl)

/-- The resolution of the stage (R65). -/
theorem Plant.resolveSlot_chargeLaw {p : Plant} (hp : p.chargeLaw) {i : SlotIx} (hs : (p.allot i).state = .staged)
    (eff : Nat) : (p.resolveSlot eff i).chargeLaw := by
  refine hp.update (p.allot_resolveSlot eff i) ?_ (.empties (p.resolveSlot_stage eff i) hs ?_)
  · split
    · exact Allotment.chargeFits_of_moving rfl
    · exact (hp.2 i).idle (by rw [hs]; rfl) rfl rfl
  · split
    · exact (AllotState.lists_of_moving rfl).2.2
    · simp

theorem Plant.endFall_stage (p : Plant) (i : SlotIx) (o : FallOutcome) : (p.endFall i o).eng.stage = p.eng.stage := by
  cases o with
  | free => simp [Plant.endFall]
  | _ => rfl

/-- The end of a fall, or of a rise (R73, R74). -/
theorem Plant.endFall_chargeLaw {p : Plant} (hp : p.chargeLaw) {i : SlotIx} (hm : (p.allot i).state.moving = true)
    (o : FallOutcome) : (p.endFall i o).chargeLaw :=
  hp.update (p.allot_endFall i o) (Allotment.fallen_fits _ o)
    (.stays (p.endFall_stage i o) (AllotState.lists_of_moving hm).2.2 (Allotment.fallen_ne_staged _ o))

/-- A release frees the slot (R87) or starts a fall (R88 to R91). -/
theorem Plant.releaseOne_chargeLaw {p : Plant} (hp : p.chargeLaw) (o : Origin) (retires : Bool) (i : SlotIx) :
    (p.releaseOne o retires i).chargeLaw := by
  have hfs : (p.allot i).freed.state ≠ .staged := by simp [Allotment.freed, Allotment.reset]
  have idle {q : Plant} (hq : ∀ j, q.allot j = p.allot j)
      (hst : ∀ r : Plant, r.eng.stage = q.eng.stage → p.StageMove r i (p.allot i).freed) :
      (q.releaseIdle i retires).chargeLaw :=
    hp.update (fun j => by rw [Plant.allot_releaseIdle, hq, hq]) (p.allot i).freed_fits
      (hst _ (q.releaseIdle_frame i retires).2.2.1)
  have driven {q : Plant} (hq : ∀ j, q.allot j = p.allot j) (he : q.eng.stage = p.eng.stage)
      (hn : (p.allot i).state ≠ .staged) : (q.releaseDriven o i retires).chargeLaw :=
    hp.moving (a := (q.inMotion (p.allot i) (fun _ => 0) (some .free)).marked o i)
      (fun j => by rw [Plant.allot_releaseDriven, hq i, hq j])
      (q.inTransition_moving (p.allot i) (fun _ => 0) (some .free))
      (by rw [(q.releaseDriven_frame o i retires).1]; simpa [Plant.fallToFree] using he) hn
  unfold Plant.releaseOne
  split
  case h_1 => exact hp
  case h_2 hs => exact idle (p.leaveQueue_allot i) fun r hr => .stays hr (by simp [hs]) hfs
  case h_3 hs => exact idle (p.setStage_allot none) fun r hr => .empties hr hs hfs
  case h_4 hs => exact idle (fun _ => rfl) fun r hr => .stays hr (by simp [hs]) hfs
  case h_7 hs => exact driven (p.leaveQueue_allot i) rfl (by simp [hs])
  case h_8 => exact hp
  all_goals
    rename_i hs
    exact driven (fun _ => rfl) rfl (by simp [hs])

/-- A trip empties the stage of the slot it finds there, and leaves it otherwise (R118 to R120). -/
theorem Plant.tripOne_stage (p : Plant) (i : SlotIx) :
    (p.tripOne i).eng.stage = if (p.allot i).state = .staged then none else p.eng.stage := by
  cases hs : (p.allot i).state with
  | falling o => cases o <;> simp [Plant.tripOne, hs, Plant.cutAllotment]
  | _ => simp [Plant.tripOne, hs, Plant.cutAllotment]

theorem Plant.tripOne_chargeLaw {p : Plant} (hp : p.chargeLaw) (i : SlotIx) : (p.tripOne i).chargeLaw := by
  have hst := p.tripOne_stage i
  refine hp.update (p.allot_tripOne i) (Allotment.trippedFrom_fits (hp.2 i)) ?_
  by_cases hs : (p.allot i).state = .staged
  · exact .empties (by rw [hst, if_pos hs]) hs (Allotment.trippedFrom_ne_staged _)
  · exact .stays (by rw [hst, if_neg hs]) hs (Allotment.trippedFrom_ne_staged _)

/-- A reshape keeps a WAITING allotment at charge 0 and takes a RUNNING one into transition (R81, R82). -/
theorem Plant.reshapeAccepted_chargeLaw {p : Plant} (hp : p.chargeLaw) {i : SlotIx}
    (hs : (p.allot i).state = .running ∨ (p.allot i).state = .waiting) (ds : List Nat) :
    (p.reshapeAccepted i ds).chargeLaw := by
  have hall := (p.allot_reshapeAccepted i · ds)
  have hne : (p.allot i).state ≠ .staged := by rcases hs with hs | hs <;> simp [hs]
  have hstage : (p.reshapeAccepted i ds).eng.stage = p.eng.stage := by
    unfold Plant.reshapeAccepted
    simp only
    split
    · simp [Plant.storeReshape]
    split <;> simp [Plant.storeReshape]
  by_cases hw : (p.allot i).state = .waiting
  · simp only [Plant.reshapedRecord, if_pos hw] at hall
    exact hp.update hall ((hp.2 i).idle (by rw [hw]; rfl) (by simp [Plant.reshaped, hw, AllotState.idle]) rfl)
      (.keeps hstage rfl)
  by_cases hd : (p.allot i).terms.map (·.requested) = ds
  · simp only [Plant.reshapedRecord, if_neg hw, if_pos hd] at hall
    exact hp.same hall rfl rfl rfl rfl hstage
  · simp only [Plant.reshapedRecord, if_neg hw, if_neg hd] at hall
    exact hp.moving hall (p.inTransition_moving (p.reshaped (p.allot i) ds) (·.requested) (some .running)) hstage hne

theorem Plant.Act.chargeLaw {eff : Nat} {p q : Plant} (h : Plant.Act eff p q) (hp : p.chargeLaw) : q.chargeLaw := by
  cases h with
  | pass h => exact h.chargeLaw hp
  | resolve h hs => exact Plant.resolveSlot_chargeLaw hp (hp.1 h hs) eff
  | unflag i _ => exact hp.same (p.allot_setAllot i · _) rfl rfl rfl rfl rfl
  | dropReport n => exact hp.congr (fun _ => rfl) rfl
  | takeReport n r h _ _ _ => exact hp.same (Plant.allot_setAllot _ h.slot · _) rfl rfl rfl rfl rfl
  | endRise i hs _ => exact Plant.endFall_chargeLaw hp (by rw [hs]; rfl) .running
  | endFall i o hs _ => exact Plant.endFall_chargeLaw hp (by rw [hs]; rfl) o
  | release o retires i => exact Plant.releaseOne_chargeLaw hp o retires i
  | latch n => exact hp.congr (fun _ => rfl) rfl
  | trip n h _ _ => exact Plant.tripOne_chargeLaw (p := p.latch n) (hp.congr (fun _ => rfl) rfl) h.slot
  | runTick i r _ => exact hp.same (p.allot_setAllot i · _) rfl rfl rfl rfl rfl
  | expire i hs =>
    exact hp.moving (p.allot_expired i) (p.inTransition_moving (p.allot i) (fun _ => 0) (some .free))
      (by simp [Plant.expired, Plant.fallToFree]) (AllotState.ne_staged_of_granted (AllotState.granted_of_runs hs))
  | reshape i ds _ _ hs _ => exact Plant.reshapeAccepted_chargeLaw hp hs ds
  | clearLatch n => exact hp.congr (fun _ => rfl) rfl
  | retry o i hs _ =>
    exact hp.update (p.allot_requeued o i)
      (Allotment.chargeFits_of_zero rfl (by simp [Allotment.marked]) (by simp [Allotment.marked]))
      (.stays (by simp [Plant.requeued]) (by simp [hs]) (by simp [Allotment.marked]))
  | client c x _ => exact hp.congr (fun _ => rfl) rfl
  | levels l => exact hp.congr (fun _ => rfl) rfl
  | output o _ => exact hp.congr (fun _ => rfl) rfl

theorem Plant.Acts.chargeLaw {eff : Nat} {p q : Plant} (h : Plant.Acts eff p q) (hp : p.chargeLaw) : q.chargeLaw := by
  induction h with
  | refl => exact hp
  | tail _ ha ih => exact ha.chargeLaw ih

/-! ### The steps that are no acts -/

theorem Plant.hardCutOne_stage (p : Plant) (i : SlotIx) : (p.hardCutOne i).eng.stage = p.eng.stage := by
  unfold Plant.hardCutOne
  simp only
  split <;> simp [Plant.cutAllotment]

/-- The record a hard cut leaves (R38). -/
def Allotment.hardCut (a : Allotment) : Allotment := if a.state = .falling .free then a.freed else a.cutTo .waiting

theorem Allotment.hardCut_fits (a : Allotment) : a.hardCut.chargeFits ∧ a.hardCut.state ≠ .staged := by
  unfold Allotment.hardCut
  split
  · exact ⟨a.freed_fits, by simp [Allotment.freed, Allotment.reset]⟩
  · exact ⟨Allotment.chargeFits_of_zero rfl (by simp [Allotment.cutTo]) (by simp [Allotment.cutTo]),
      by simp [Allotment.cutTo]⟩

/-- The walk of a hard cut over slots outside the stage, which a cut never puts there (R37, R38). -/
theorem cutWalk_chargeLaw {eff : Nat} (l : List Handle) {p : Plant} (hp : p.chargeLaw)
    (hn : ∀ h ∈ l, (p.allot h.slot).state ≠ .staged) : (cutWalk eff l p).chargeLaw := by
  induction l generalizing p with
  | nil => exact hp
  | cons h rest ih =>
    unfold cutWalk
    split
    · exact hp
    have hall := p.allot_hardCutOne h.slot
    obtain ⟨hfits, hne⟩ := (p.allot h.slot).hardCut_fits
    refine ih (hp.update hall hfits (.stays (p.hardCutOne_stage h.slot) (hn h List.mem_cons_self) hne)) fun g hg => ?_
    rw [hall]
    split
    · exact hne
    · exact hn g (List.mem_cons_of_mem _ hg)

/-- A hard cut takes no STAGED allotment (R37). -/
theorem Plant.cutOrder_ne_staged {p : Plant} {h : Handle} (hh : h ∈ p.cutOrder) :
    (p.allot h.slot).state ≠ .staged := by
  intro hs
  rcases List.mem_append.mp hh with hh | hh <;> simpa [hs, AllotState.outcome?] using (List.mem_filter.mp hh).2

theorem Plant.ceilingReport_chargeLaw {p : Plant} (hp : p.chargeLaw) (old new : Nat) :
    (p.ceilingReport old new).chargeLaw := by
  unfold Plant.ceilingReport
  split
  · exact (p.passIf_acts new .other true).chargeLaw hp
  split
  · exact hp
  · exact (Plant.settleStage_acts _ new true).chargeLaw (cutWalk_chargeLaw _ hp fun _ => Plant.cutOrder_ne_staged)

theorem State.recompute_chargeLaw {s : State} (hp : s.plant.chargeLaw) : s.recompute.plant.chargeLaw := by
  unfold State.recompute
  simp only
  split
  · exact hp
  · exact Plant.ceilingReport_chargeLaw hp _ _

theorem Plant.createAllotment_chargeLaw {p : Plant} (hp : p.chargeLaw) {i : SlotIx} (hs : (p.allot i).state = .free)
    (c : ClientIx) (payload : List Byte) : (p.createAllotment c payload i).chargeLaw :=
  hp.update (p.allot_createAllotment c payload i)
    (Allotment.chargeFits_of_zero rfl (by simp [Plant.claimRecord]) (by simp [Plant.claimRecord]))
    (.stays rfl (by simp [hs]) (by simp [Plant.claimRecord]))

/-- A FREE record with charge 0, and every record that HALT frees, holds the charge of its state; the stage is empty
(R170). -/
theorem Plant.halt_chargeLaw {p : Plant} (hp : p.chargeLaw) : p.halt.chargeLaw := by
  have one (q : Plant) (i j : SlotIx) (hq : (q.allot j).chargeFits) : ((q.haltOne i).allot j).chargeFits := by
    unfold Plant.haltOne
    rw [Plant.allot_freeSlot]
    split
    · exact Allotment.freed_fits _
    · split
      · exact hq
      · rwa [Plant.retire_allot]
  have all (l : List SlotIx) : ∀ q : Plant, (∀ j, (q.allot j).chargeFits) →
      ∀ j, ((l.foldl Plant.haltOne q).allot j).chargeFits := by
    induction l with
    | nil => exact fun q hq => hq
    | cons i l ih => exact fun q hq => ih _ fun j => one q i j (hq j)
  exact ⟨fun h hh => (by cases hh), all p.inUse p hp.2⟩

/-- Every kind of step keeps the law of charges. -/
theorem State.Effect.chargeLaw {s t : State} (h : s.Effect t) (hs : s.plant.chargeLaw) : t.plant.chargeLaw := by
  cases h with
  | acts h => exact h.chargeLaw hs
  | claim c p i hpass h =>
    have hfree : s.plant.lowestFree = some i := by
      obtain ⟨-, -, -, -, -, -, -, -, hi⟩ := hpass
      exact hi
    exact h.chargeLaw (Plant.createAllotment_chargeLaw hs (Plant.lowestFree_free hfree) c p)
  | channel n _ _ _ _ _ h => rw [h]; exact hs.congr (fun _ => rfl) rfl
  | configured c x _ _ h => rw [h]; exact hs.congr (fun _ => rfl) rfl
  | relimit s' _ hr h => rw [h]; exact State.recompute_chargeLaw (by rw [hr.plant]; exact hs)
  | rederate _ _ _ h => rw [h]; exact hs
  | halt h => rw [h]; exact Plant.halt_chargeLaw hs
  | reset h => rw [h]; exact Plant.chargeLaw_reset
  | held h => rw [h]; exact hs
  | supply h => rw [h]; exact hs

end Sys2Proof.Machine

open Sys2Proof Sys2Proof.Machine in
/-- Settles O7: every kind of step keeps the law of charges. -/
theorem settledChargesStayAsTheirStatesSay : Obligations.SettledChargesStayAsTheirStatesSay := by
  intro s t hs h
  rcases step_effect h with rfl | ⟨rest, he⟩
  · exact hs
  · exact he.chargeLaw hs
end

section
/-! What follows a new effective ceiling (R26, R36): a pass over the queue, a hard cut, or nothing. -/

namespace Sys2Proof.Machine

/-- The report of a ceiling that brings no hard cut: a rise with the stage empty brings a pass (R36, R52). -/
theorem Plant.ceilingReport_calm {p : Plant} {old new : Nat} (h : new ≤ old → p.eng.committed ≤ new) :
    p.ceilingReport old new =
      if old < new ∧ p.eng.stage = none then passWalk new .other p.eng.queue p else p := by
  unfold Plant.ceilingReport
  by_cases hlt : old < new
  · rw [if_pos hlt]
    cases hs : p.eng.stage with
    | none => simp [Plant.passIf, Plant.pass, hs, hlt]
    | some g => simp [Plant.passIf, hs]
  · rw [if_neg hlt, if_pos (h (Nat.le_of_not_lt hlt)), if_neg fun hc => hlt hc.1]

/-- A recomputation after which the committed charge is within the ceiling, or which leaves the ceiling in force. -/
theorem State.recompute_calm {s : State} {eff : Nat} (heff : s.lim.effectiveFor s.ctl.part = eff)
    (h : eff ≤ s.lim.effective → s.plant.eng.committed ≤ eff ∨ eff = s.lim.effective) :
    s.recompute = { s with
      lim := { s.lim with effective := eff }
      plant := if s.lim.effective < eff ∧ s.plant.eng.stage = none then
        passWalk eff .other s.plant.eng.queue s.plant else s.plant } := by
  by_cases he : eff = s.lim.effective
  · rw [State.recompute_same s (heff.trans he), he]
    simp
  · unfold State.recompute
    simp only [heff, if_neg he]
    rw [Plant.ceilingReport_calm fun hle => (h hle).resolve_right he]

/-- A recomputation that raises the ceiling with the stage empty brings a pass over the queue (R36, R52). -/
theorem State.recompute_pass {s : State} {eff : Nat} (heff : s.lim.effectiveFor s.ctl.part = eff)
    (hlt : s.lim.effective < eff) (hs : s.plant.eng.stage = none) :
    s.recompute = { s with
      lim := { s.lim with effective := eff }, plant := passWalk eff .other s.plant.eng.queue s.plant } := by
  rw [State.recompute_calm heff fun hle => absurd hlt (Nat.not_lt.mpr hle), if_pos ⟨hlt, hs⟩]

/-- A recomputation that takes the ceiling below the committed charge brings a hard cut (R36, R37). -/
theorem State.recompute_cut {s : State} {eff : Nat} (heff : s.lim.effectiveFor s.ctl.part = eff)
    (hlt : eff < s.lim.effective) (hc : eff < s.plant.eng.committed) :
    s.recompute = { s with lim := { s.lim with effective := eff }, plant := s.plant.hardCut eff } := by
  unfold State.recompute Plant.ceilingReport
  simp only [heff, if_neg (Nat.ne_of_lt hlt), if_neg (Nat.not_lt.mpr hlt.le), if_neg (Nat.not_le.mpr hc)]

/-! ### SET_LIMITS (R31, R32) -/

/-- A request that its block refuses is answered, and changes nothing (R178). -/
theorem State.request_refused {s : State} (h : s.inReset = false) {snd : Sender}
    (hk : ∀ c, snd = .client c → (s.plant.client c).state ≠ .unset) {r : Request} {p : List Byte} {f : BlockStep}
    {st : Status} (hr : f snd p s = s.refuse st) : s.request r snd p f = .next (s.answered r snd p (.bare st)) := by
  rw [State.request_known h hk, hr]
  rfl

/-- An accepted SET_LIMITS stores its fields, recomputes the ceiling, and answers with the figures after it. -/
theorem setLimits_ok {s : State} {ch cl dh dl hold : Byte} (hc : 256 * ch.toNat + cl.toNat ≤ 4095)
    (hd : 256 * dh.toNat + dl.toNat ≤ 4095) :
    setLimits .supervisor [ch, cl, dh, dl, hold] s =
      let s1 := s.storeLimits (256 * ch.toNat + cl.toNat) (256 * dh.toNat + dl.toNat) hold.toNat
      (s1, .okWith (limitsReply s1)) := by
  have hfield : ¬(Config.maxUnits < 256 * ch.toNat + cl.toNat ∨ Config.maxUnits < 256 * dh.toNat + dl.toNat) := by
    simp only [Config.maxUnits]; omega
  simp only [setLimits, ne_eq, not_true_eq_false, if_false, List.length_cons, List.length_nil]
  exact if_neg hfield

/-- The figures of a reply to SET_LIMITS after the fields of the request were stored (R32). -/
theorem limitsReply_stored {t : State} {ch cl dh dl hold : Byte} (hc : t.lim.configured = 256 * ch.toNat + cl.toNat)
    (hd : t.lim.derated = 256 * dh.toNat + dl.toNat) (hh : t.lim.hold = hold.toNat) :
    limitsReply t =
      [ch, cl, dh, dl, hold, t.lim.derate.code] ++ word t.lim.effective ++ word t.plant.eng.committed := by
  unfold limitsReply
  rw [hc, hd, hh, word_of_bytes, word_of_bytes, byte_toNat]
  rfl

end Sys2Proof.Machine

open Sys2Proof Sys2Proof.Machine in
/-- Settles O46: each refusal by the order of R31, and the recomputation of the stored limits by where it takes the
ceiling. -/
theorem setLimitsStoresAndRecomputesTheCeiling : Obligations.SetLimitsStoresAndRecomputesTheCeiling := by
  intro s ch cl dh dl hold h p conf der refused
  have known : ∀ c, Sender.supervisor = .client c → (s.plant.client c).state ≠ .unset := fun _ hc => by cases hc
  refine ⟨fun c q hc => State.request_refused h (fun _ he => by cases he; exact hc) rfl, fun q hq => ?_,
    fun hout => ?_, ?accepted⟩
  · exact State.request_refused h known (by simp [setLimits, hq])
  · refine State.request_refused h known ?_
    simp only [setLimits, ne_eq, not_true_eq_false, if_false, p, List.length_cons, List.length_nil]
    exact if_pos hout
  case accepted =>
  intro hconf hder eff lim takes
  have heff : ({ s.lim with configured := conf, derated := der, hold := hold.toNat } : LimitUnit).effectiveFor
      s.ctl.part = eff := by
    simp only [LimitUnit.effectiveFor, eff]
    cases s.ctl.part <;> cases s.lim.derate <;> rfl
  have accepted (q : Plant)
      (hq : s.storeLimits conf der hold.toNat = { s with lim := lim, plant := q }) : takes q := by
    change exec _ s = _
    rw [exec_request (r := .setLimits) rfl, State.request_supervisor h]
    change Host.Outcome.next ((setLimits .supervisor p s).1.answered _ _ _ (setLimits .supervisor p s).2) = _
    rw [setLimits_ok hconf hder, hq]
    let t : State := { s with lim := lim, plant := q }
    exact congrArg (fun r => Host.Outcome.next (t.answered .setLimits .supervisor p (.okWith r)))
      (limitsReply_stored (t := t) rfl rfl rfl)
  exact ⟨fun hcalm => accepted _ (State.recompute_calm heff hcalm),
    fun hlt hcut => accepted _ (State.recompute_cut heff hlt hcut)⟩

end

section
/-! The rows of the derate state (R27 to R29) and of COMMIT and RESTART (R168, R173), as equations of the whole state. -/

namespace Sys2Proof.Machine

/-! ### DERATEn and the hold -/

/-- DERATEn falls while the part runs: the derate state of R27 by the one it finds. -/
theorem exec_deratenFalls {s : State} (h : s.inReset = false) (hp : s.pins.derateLow = false) :
    exec .deratenFalls s = .next (s.setDerateLow true).derateFalls := by
  change (if s.pins.derateLow then Host.Outcome.next s else (s.setDerateLow true).taking State.derateFalls) = _
  rw [hp]
  exact State.taking_run (s := s.setDerateLow true) h _

theorem exec_deratenRises {s : State} (h : s.inReset = false) (hp : s.pins.derateLow = true) :
    exec .deratenRises s = .next (s.setDerateLow false).derateRises := by
  change (if s.pins.derateLow then (s.setDerateLow false).taking State.derateRises else Host.Outcome.next s) = _
  rw [if_pos hp]
  exact State.taking_run (s := s.setDerateLow false) h _

/-- The hold's expiry returns HOLDING to NORMAL and recomputes the ceiling (R29). -/
theorem exec_holdExpiry {s : State} (h : s.inReset = false) (hd : s.lim.derate = .holding) :
    exec .holdExpiry s = .next (s.setDerate .normal none).recompute := by
  change s.taking _ = _
  rw [State.taking_run h, if_pos hd]

theorem State.derateFalls_normal {s : State} (hd : s.lim.derate = .normal) :
    s.derateFalls = (s.setDerate .derated s.lim.holdTimer).recompute := by simp [State.derateFalls, hd]

theorem State.derateFalls_holding {s : State} (hd : s.lim.derate = .holding) :
    s.derateFalls = s.setDerate .derated none := by simp [State.derateFalls, hd]

theorem State.derateRises_derated {s : State} (hd : s.lim.derate = .derated) :
    s.derateRises = if s.lim.hold = 0 then (s.setDerate .normal none).recompute
      else s.setDerate .holding (some (Config.holdUnitMs * s.lim.hold)) := by simp [State.derateRises, hd]

/-! ### COMMIT and RESTART -/

/-- A COMMIT in SETUP opens RUN and recomputes the ceiling (R168). -/
theorem commit_setup {s : State} (hs : s.ctl.part = .setup) :
    commit .supervisor [] s = ((s.setPart .run).recompute, .okWith (commitReply (s.setPart .run).recompute)) := by
  simp [commit, hs]

/-- In SETUP the part is quiet, and the ceiling that COMMIT brings moves nothing else (R166, R168). -/
theorem State.recompute_commit {s : State} (hs : s.ctl.part = .setup) (ho : s.outputsSound) :
    (s.setPart .run).recompute = { s with
      ctl := { s.ctl with part := .run }, lim := { s.lim with effective := s.lim.effectiveFor .run } } := by
  obtain ⟨-, hcom, hqueue, -⟩ := (ho.2 hs).1
  have hcalm : s.plant.eng.committed ≤ s.lim.effectiveFor .run := by omega
  rw [State.recompute_calm (s := s.setPart .run) (eff := s.lim.effectiveFor .run) rfl fun _ => .inl hcalm]
  simp only [State.setPart_plant, State.setPart_lim, hqueue, passWalk, ite_self]
  rfl

end Sys2Proof.Machine

open Sys2Proof Sys2Proof.Machine in
/-- Settles O47: each move of the derate state, with the recomputation of the ceiling where the move brings one. -/
theorem derateStateFollowsThePin : Obligations.DerateStateFollowsThePin := by
  intro s h _ eff calm plant
  refine ⟨fun hp hd hc => ?_, fun hp hd => ?_, fun hp hd hh => ?_, fun hp hd hh hc => ?_, fun hd hc => ?_⟩
  · rw [exec_deratenFalls h hp, State.derateFalls_normal (s := s.setDerateLow true) hd]
    exact congrArg _ (State.recompute_calm (eff := eff .derated) rfl hc)
  · rw [exec_deratenFalls h hp, State.derateFalls_holding (s := s.setDerateLow true) hd]
    rfl
  · rw [exec_deratenRises h hp, State.derateRises_derated (s := s.setDerateLow false) hd]
    exact congrArg _ (if_neg (Nat.ne_of_gt hh))
  · rw [exec_deratenRises h hp, State.derateRises_derated (s := s.setDerateLow false) hd]
    refine congrArg _ ((if_pos hh).trans ?_)
    exact State.recompute_calm (eff := eff .normal) rfl hc
  · rw [exec_holdExpiry h hd]
    exact congrArg _ (State.recompute_calm (s := s.setDerate .normal none) (eff := eff .normal) rfl hc)

open Sys2Proof Sys2Proof.Machine in
/-- Settles O52: the refusals of a payload, COMMIT from a quiet SETUP, and RESTART. -/
theorem commitOpensRunAndRestartOnlyPends : Obligations.CommitOpensRunAndRestartOnlyPends := by
  intro s h
  have known : ∀ c, Sender.supervisor = .client c → (s.plant.client c).state ≠ .unset := fun _ hc => by cases hc
  refine ⟨fun q hq => ⟨fun hs => ?_, ?_⟩, ?commit, ?restart⟩
  · exact State.request_refused h known (by simp [commit, hs, hq])
  · exact State.request_refused h known (by simp [restart, hq])
  case commit =>
    intro hs ho eff derate enabled
    rw [exec_request (r := .commit) rfl, State.request_supervisor h]
    have hc := commit_setup hs
    rw [State.recompute_commit hs ho] at hc
    exact congrArg (fun x : State × BlockReply => Host.Outcome.next (x.1.answered .commit .supervisor [] x.2)) hc
  case restart =>
    rw [exec_request (r := .restart) rfl, State.request_supervisor h]
    rfl
end

section
/-! The walk of a pass, entry by entry (R53 to R57, R61, R62): what a top-up, a grant and a staging make of the plant. -/

namespace Sys2Proof.Machine

/-! ### Top-ups and grants -/

/-- The record of slot `i` rising toward its requested duties, flagged but in its owner's own request (R54, R56, R57). -/
def Plant.risen (p : Plant) (o : Origin) (i : SlotIx) : Allotment :=
  { p.inTransition (p.allot i) (·.requested) none with
    charge := p.transitionCharge (p.allot i).terms (·.requested)
    changed := (p.allot i).changed || !o.spares i (p.allot i) }

/-- The plant with slot `i` out of the queue and rising toward its requested duties, and the grant list given. -/
def Plant.rises (p : Plant) (o : Origin) (i : SlotIx) (grants : List Handle) : Plant :=
  { p with
    eng := { p.eng with
      allots := p.eng.allots.set i (p.risen o i)
      queue := p.eng.queue.filter fun x => x.slot ≠ i
      grants := grants
      committed := p.eng.committed - (p.allot i).charge + p.transitionCharge (p.allot i).terms (·.requested) }
    out := p.out.command (p.allot i).terms (·.requested) ((p.allot i).commandId + 1) }

theorem Plant.eq_of_fields {p q : Plant} (he : p.eng = q.eng) (ho : p.out = q.out) (hc : p.clients = q.clients) :
    p = q := by
  cases p; cases q; cases he; cases ho; cases hc; rfl

/-- What rises one slot is known by its record, its grant list and its frame. -/
theorem Plant.eq_rises {p q : Plant} {o : Origin} {i : SlotIx}
    (ha : ∀ j, q.allot j = if j = i then p.risen o i else p.allot j)
    (hf : q.eng.queue = p.eng.queue.filter (fun x => x.slot ≠ i) ∧ q.eng.stage = p.eng.stage
      ∧ q.eng.binding = p.eng.binding ∧ q.eng.levels = p.eng.levels
      ∧ q.eng.committed = p.eng.committed - (p.allot i).charge + p.transitionCharge (p.allot i).terms (·.requested))
    (ho : q.out = p.out.command (p.allot i).terms (·.requested) ((p.allot i).commandId + 1))
    (hc : q.clients = p.clients) : q = p.rises o i q.eng.grants := by
  obtain ⟨hqueue, hstage, hbind, hlev, hcom⟩ := hf
  refine Plant.eq_of_fields ((Engine.eq_of_levels hlev).trans ?_) ho hc
  rw [Plant.allots_eq_set ha, hqueue, hstage, hbind, hcom]
  rfl

/-- A top-up keeps the grant list (R54). -/
theorem Plant.topUp_eq (p : Plant) (o : Origin) (i : SlotIx) : p.topUp o i = p.rises o i p.eng.grants := by
  have hgrants : (p.topUp o i).eng.grants = p.eng.grants := by simp [Plant.topUp]
  rw [← hgrants]
  exact Plant.eq_rises (p.allot_topUp o i)
    ⟨by simp [Plant.topUp, Plant.leaveQueue], by simp [Plant.topUp], by simp [Plant.topUp], by simp [Plant.topUp],
      by simp [Plant.topUp]; rfl⟩ (by simp [Plant.topUp]) (by simp [Plant.topUp])

/-- A grant puts the handle at the back of the grant list (R56). -/
theorem Plant.grant_eq (p : Plant) (o : Origin) (i : SlotIx) :
    p.grant o i = p.rises o i (p.eng.grants ++ [p.handleOf i]) := by
  have hgrants : (p.grant o i).eng.grants = p.eng.grants ++ [p.handleOf i] := by
    simp [Plant.grant, Plant.joinGrants, Plant.handleOf, Plant.allot_startTransition, Plant.inTransition]
  rw [← hgrants]
  exact Plant.eq_rises (fun j => (p.allot_grant o i j).trans (p.allot_topUp o i j))
    ⟨by simp [Plant.grant, Plant.leaveQueue], by simp [Plant.grant], by simp [Plant.grant], by simp [Plant.grant],
      by simp [Plant.grant]; rfl⟩ (by simp [Plant.grant]) (by simp [Plant.grant])

/-- The flag after an event of origin `o`: set, but in the owner's own request for the allotment (R14, R57). -/
theorem Origin.changed_eq (o : Origin) (i : SlotIx) (a : Allotment) :
    (a.changed || !o.spares i a) = (match o with
      | .other => true
      | .owner j => if j = i then a.changed else true
      | .ownerAll c => if a.owner = some c then a.changed else true) := by
  cases o with
  | other => simp [Origin.spares]
  | owner j => by_cases h : j = i <;> simp [Origin.spares, h, Ne.symm]
  | ownerAll c => by_cases h : a.owner = some c <;> simp [Origin.spares, h]

/-! ### Staging -/

/-- Victims keep the generation of every slot (R59, R60). -/
theorem generation_foldl {act : Plant → SlotIx → Plant}
    (hact : ∀ p i j, ((act p i).allot j).generation = (p.allot j).generation) (vs : List Handle) (p : Plant)
    (j : SlotIx) : ((vs.foldl (fun q h => act q h.slot) p).allot j).generation = (p.allot j).generation := by
  induction vs generalizing p with
  | nil => rfl
  | cons v vs ih => exact (ih (act p v.slot)).trans (hact p v.slot j)

theorem Plant.generation_reduceVictim (p : Plant) (o : Origin) (i j : SlotIx) :
    ((p.reduceVictim o i).allot j).generation = (p.allot j).generation := by
  rw [Plant.allot_reduceVictim]
  split
  next h => rw [h]; rfl
  next => rfl

theorem Plant.generation_shedVictim (p : Plant) (o : Origin) (i j : SlotIx) :
    ((p.shedVictim o i).allot j).generation = (p.allot j).generation := by
  rw [Plant.allot_shedVictim]
  split
  next h => rw [h]; rfl
  next => rfl

/-- A plan ends with the staging of its entry, whose handle its victims keep (R61, R62). -/
theorem Plant.plan_stages {p q : Plant} {eff : Nat} {o : Origin} {i : SlotIx} (h : p.plan eff o i = some q) :
    ∃ r : Plant, q = r.stageEntry o i ∧ r.handleOf i = p.handleOf i := by
  have handle {r : Plant} (hg : (r.allot i).generation = (p.allot i).generation) : r.handleOf i = p.handleOf i := by
    simp only [Plant.handleOf, hg]
  unfold Plant.plan at h
  simp only at h
  split at h
  next => cases h; exact ⟨p, rfl, rfl⟩
  split at h
  next vs _ =>
    cases h
    exact ⟨_, rfl, handle (generation_foldl (act := fun q => q.reduceVictim o)
      (fun q => q.generation_reduceVictim o) vs p i)⟩
  split at h
  next vs _ =>
    cases h
    exact ⟨_, rfl, handle (generation_foldl (act := fun q => q.shedVictim o)
      (fun q => q.generation_shedVictim o) vs p i)⟩
  next => cases h

/-- The staged entry stands in the stage, STAGED with charge 0 (R62). -/
theorem Plant.stageEntry_staged (p : Plant) (o : Origin) (i : SlotIx) :
    (p.stageEntry o i).eng.stage = some (p.handleOf i) ∧ ((p.stageEntry o i).allot i).state = .staged
      ∧ ((p.stageEntry o i).allot i).charge = 0 := by
  rw [Plant.allot_stageEntry, if_pos rfl]
  exact ⟨by simp [Plant.stageEntry], rfl, rfl⟩

/-! ### The walk -/

/-- A pass that meets a REDUCED entry tops it up where the difference of its costs fits, and passes over it else
(R54). -/
theorem passWalk_reduced {eff : Nat} {o : Origin} {h : Handle} {rest : List Handle} {p : Plant}
    (hs : (p.allot h.slot).state = .reduced) :
    passWalk eff o (h :: rest) p =
      if p.fits eff ((p.allot h.slot).requestCost - (p.allot h.slot).floorCost) then
        passWalk eff o rest (p.topUp o h.slot)
      else passWalk eff o rest p := by
  rw [passWalk]
  simp only [hs]

theorem Plant.fits_iff {p : Plant} {eff need : Nat} : p.fits eff need = true ↔ p.eng.committed + need ≤ eff := by
  simp [Plant.fits]

end Sys2Proof.Machine

open Sys2Proof Sys2Proof.Machine in
/-- Settles O21: the pass after the hold's expiry, and the branches of the walk by the state and cost of its head. -/
theorem admissionPassWalksTheQueue : Obligations.AdmissionPassWalksTheQueue := by
  refine ⟨?expiry, ?walk⟩
  case expiry =>
    intro s h hd hst eff hlt
    rw [exec_holdExpiry h hd]
    exact congrArg _ (State.recompute_pass (s := s.setDerate .normal none) (eff := eff) rfl hlt hst)
  intro eff o p h rest a rises
  have hrises (grants : List Handle) : p.rises o h.slot grants = rises grants := by
    simp only [Plant.rises, Plant.risen, Origin.changed_eq]
    cases o <;> rfl
  refine ⟨rfl, fun hs hf => ?_, fun hs hf => ?_, fun hs hf => ?_, fun hs hle hf => ?_, fun hs hle hf => ?_⟩
  · rw [passWalk_reduced hs, if_pos (Plant.fits_iff.mpr hf), Plant.topUp_eq, hrises]
  · rw [passWalk_reduced hs, if_neg (Plant.fits_iff.not.mpr (Nat.not_le.mpr hf))]
  · rw [passWalk_waiting hs, if_pos hf]
  · rw [passWalk_waiting hs, if_neg (Nat.not_lt.mpr hle), if_pos (Plant.fits_iff.mpr hf), Plant.grant_eq, hrises]
  · rw [passWalk_waiting hs, if_neg (Nat.not_lt.mpr hle), if_neg (Plant.fits_iff.not.mpr (Nat.not_le.mpr hf))]
    cases hplan : p.plan eff o h.slot with
    | none => exact .inl ⟨rfl, rfl⟩
    | some q =>
      obtain ⟨r, rfl, hr⟩ := Plant.plan_stages hplan
      obtain ⟨hstage, hstate, hcharge⟩ := r.stageEntry_staged o h.slot
      exact .inr ⟨_, rfl, rfl, hstage.trans (congrArg some hr), hstate, hcharge⟩
end

section
/-! The order of a hard cut, and which allotments it takes (R37). -/

namespace Sys2Proof.Machine

/-! ### The order -/

/-- Of two granted allotments one at most is cut before the other (R37). -/
theorem Plant.cutBefore_asymm {p : Plant} (hg : p.eng.grants.Nodup) {x y : Handle} (h : p.cutBefore x y) :
    ¬p.cutBefore y x := by
  unfold Plant.cutBefore at h ⊢
  cases hx : (p.allot x.slot).state.outcome?.isSome <;> cases hy : (p.allot y.slot).state.outcome?.isSome <;>
    simp only [hx, hy] at h ⊢
  case false.false => exact p.lostBefore_asymm hg h
  case true.false => exact not_false
  case true.true => exact not_sublist_swap hg h

/-- The cut order lists each allotment before those that are cut after it (R37). -/
theorem Plant.cutOrder_pairwise (p : Plant) : p.cutOrder.Pairwise p.cutBefore := by
  have falling {x : Handle} {l : List Handle}
      (hx : x ∈ l.filter fun h => (p.allot h.slot).state.outcome?.isSome) :
      (p.allot x.slot).state.outcome?.isSome = true := (List.mem_filter.mp hx).2
  have steady {x : Handle} {l : List Handle} (hx : x ∈ l.filter fun h => (p.allot h.slot).state = .rising
      || (p.allot h.slot).state = .running || (p.allot h.slot).state = .reduced) :
      (p.allot x.slot).state.outcome?.isSome = false := by
    have := (List.mem_filter.mp hx).2
    cases hs : (p.allot x.slot).state <;> simp_all [AllotState.outcome?]
  have hrev : p.eng.grants.reverse.Pairwise p.admittedAfter := by
    rw [List.pairwise_reverse]
    exact List.pairwise_iff_forall_sublist.mpr fun h => h
  refine List.pairwise_append.mpr ⟨?_, ?_, fun x hx y hy => ?_⟩
  · refine (hrev.filter _).imp_of_mem fun hx hy hxy => ?_
    simpa only [Plant.cutBefore, falling hx, falling hy] using hxy
  · refine (p.victimOrder_pairwise.filter _).imp_of_mem fun hx hy hxy => ?_
    simpa only [Plant.cutBefore, steady hx, steady hy] using hxy
  · simp only [Plant.cutBefore, falling hx, steady hy]

/-- An entry of an exact list is the handle of its slot (R4). -/
theorem Plant.lists.handle {p : Plant} {l : List Handle} {f : AllotState → Bool} (h : p.lists l f) {x : Handle}
    (hx : x ∈ l) : x = p.handleOf x.slot := h.2.1 x hx

section Grants
variable {p : Plant}

/-- The cut order names what is granted (R37, R49). -/
theorem Plant.mem_cutOrder (hg : p.lists p.eng.grants AllotState.granted) {h : Handle} :
    h ∈ p.cutOrder ↔ h ∈ p.eng.grants := by
  simp only [Plant.cutOrder, List.mem_append, List.mem_filter, List.mem_reverse, Plant.mem_victimOrder]
  refine ⟨fun hx => hx.elim And.left And.left, fun hx => ?_⟩
  have hs := hg.mem_iff_slot hx
  cases hst : (p.allot h.slot).state <;> simp_all [AllotState.granted, AllotState.outcome?]

theorem Plant.cutOrder_perm (hg : p.lists p.eng.grants AllotState.granted) : p.cutOrder.Perm p.eng.grants := by
  have hn : p.cutOrder.Nodup := p.cutOrder_pairwise.imp fun h he => by
    subst he
    exact p.cutBefore_asymm hg.1 h h
  exact (List.perm_ext_iff_of_nodup hn hg.1).mpr fun h => Plant.mem_cutOrder hg

/-- The committed charge is that of the granted allotments (R33, R35). -/
theorem Plant.committed_eq_grants (ha : p.accountsAgree) (hg : p.lists p.eng.grants AllotState.granted)
    (hc : p.chargeLaw) : p.eng.committed = (p.eng.grants.map fun h => (p.allot h.slot).charge).sum := by
  have hslots : (p.eng.grants.map Handle.slot).Perm (allSlots.filter fun i => (p.allot i).state.granted) := by
    refine (List.perm_ext_iff_of_nodup hg.slots_nodup ((List.nodup_finRange 32).filter _)).mpr fun i => ?_
    rw [List.mem_map, List.mem_filter, ← hg.2.2 i]
    refine ⟨?_, fun hi => ⟨_, hi.2, rfl⟩⟩
    rintro ⟨h, hh, rfl⟩
    exact ⟨List.mem_finRange _, by rwa [← hg.handle hh]⟩
  have hidle {i : SlotIx} (hi : (p.allot i).state.granted = false) : (p.allot i).charge = 0 := by
    refine (hc.2 i).1 ?_
    cases hs : (p.allot i).state <;> simp_all [AllotState.granted, AllotState.outcome?]
  have hsum (l : List SlotIx) : (l.map fun i => (p.allot i).charge).sum
      = ((l.filter fun i => (p.allot i).state.granted).map fun i => (p.allot i).charge).sum := by
    induction l with
    | nil => rfl
    | cons i l ih =>
      cases hi : (p.allot i).state.granted with
      | true => simp [hi, ih]
      | false => simp [hi, ih, hidle hi]
  rw [ha.2, Plant.chargeSum, hsum, ← (hslots.map fun i => (p.allot i).charge).sum_eq, List.map_map]
  rfl

end Grants

/-! ### The allotments that a hard cut takes -/

/-- Candidates whose gains reach what is needed are not used up. -/
theorem takeVictims_some {gain : Handle → Nat} {need : Nat} {l : List Handle} (h : need ≤ (l.map gain).sum)
    (hn : 0 < need) : ∃ vs, takeVictims gain need l = some vs := by
  induction l generalizing need with
  | nil => simp at h; omega
  | cons x l ih =>
    unfold takeVictims
    split
    next => exact ⟨_, rfl⟩
    next hlt =>
      simp only [List.map_cons, List.sum_cons] at h
      obtain ⟨vs, hvs⟩ := ih (need := need - gain x) (by omega) (by omega)
      exact ⟨x :: vs, by rw [hvs]; rfl⟩

theorem Plant.committed_hardCutOne (p : Plant) (i : SlotIx) :
    (p.hardCutOne i).eng.committed = p.eng.committed - (p.allot i).charge := by
  unfold Plant.hardCutOne
  simp only
  split
  next => simp [Plant.allot_cutAllotment, Plant.cutAllotment_committed]
  next => simp [Plant.cutAllotment_committed]

/-- A walk that starts within the ceiling cuts nothing. -/
theorem cutWalk_within_ceiling {eff : Nat} {p : Plant} (h : p.eng.committed ≤ eff) (l : List Handle) :
    cutWalk eff l p = p := by
  cases l with
  | nil => rfl
  | cons x l => rw [cutWalk, if_pos h]

/-- A hard cut walks the cut order as far as the charges needed reach (R37). -/
theorem cutWalk_eq_foldl {eff : Nat} {l vs : List Handle} {p : Plant} (hn : (l.map Handle.slot).Nodup)
    (hc : eff < p.eng.committed)
    (h : takeVictims (fun x => (p.allot x.slot).charge) (p.eng.committed - eff) l = some vs) :
    cutWalk eff l p = vs.foldl (fun q x => q.hardCutOne x.slot) p := by
  induction l generalizing p vs with
  | nil => cases h
  | cons x l ih =>
    rw [List.map_cons, List.nodup_cons] at hn
    have hcom := p.committed_hardCutOne x.slot
    rw [cutWalk, if_neg (Nat.not_le.mpr hc)]
    unfold takeVictims at h
    split at h
    next hle =>
      cases h
      exact cutWalk_within_ceiling (by omega) l
    next hlt =>
      obtain ⟨ws, hws, rfl⟩ := Option.map_eq_some_iff.mp h
      refine ih hn.2 (by omega) ?_
      have hne {y : Handle} (hy : y ∈ l) : y.slot ≠ x.slot := fun he => hn.1 (he ▸ List.mem_map_of_mem hy)
      rw [takeVictims_congr (g' := fun y => (p.allot y.slot).charge)
        (fun y hy => by rw [Plant.allot_hardCutOne, if_neg (hne hy)]), hcom,
        show p.eng.committed - (p.allot x.slot).charge - eff = p.eng.committed - eff - (p.allot x.slot).charge by omega]
      exact hws

end Sys2Proof.Machine
end

section
/-! What the hard cuts of several allotments do together (R38). -/

namespace Sys2Proof.Machine

/-! ### One cut -/

theorem Plant.levels_hardCutOne (p : Plant) (i : SlotIx) : (p.hardCutOne i).eng.levels = p.eng.levels := by
  unfold Plant.hardCutOne
  simp only
  split <;> simp [Plant.cutAllotment]

theorem Plant.grants_hardCutOne (p : Plant) (i : SlotIx) :
    (p.hardCutOne i).eng.grants = p.eng.grants.filter fun x => x.slot ≠ i := by
  unfold Plant.hardCutOne
  simp only
  split <;> simp [Plant.cutAllotment, Plant.leaveGrants]

/-- The freeing of a FALLING/FREE allotment unbinds its channels (R2, R38). -/
theorem Plant.binding_hardCutOne (p : Plant) (i : SlotIx) (n : ChannelIx) :
    (p.hardCutOne i).eng.binding[n] =
      if (p.allot i).state = .falling .free ∧ n ∈ (p.allot i).channels then none else p.eng.binding[n] := by
  unfold Plant.hardCutOne
  simp only
  split
  next hs =>
    have hch : (((p.cutAllotment i).markChanged .other i).allot i).terms.map Term.channel = (p.allot i).channels := by
      rw [Plant.allot_markChanged, if_pos rfl, Plant.allot_cutAllotment, if_pos rfl]
      exact Allotment.halted_channels _
    rw [Plant.binding_freeSlot, hch]
    simp only [hs, true_and, Plant.markChanged_binding]
    rfl
  next hs => simp [hs, Plant.cutAllotment]

/-- The freeing of a slot lowers its owner's claimed total, and moves no other part of a client (R2, R16). -/
theorem Plant.client_freeSlot (p : Plant) (i : SlotIx) (c : ClientIx) :
    (p.freeSlot i).client c = { p.client c with claimed := (p.client c).claimed
      - (if (p.allot i).owner = some c then (p.allot i).requestCost else 0) } := by
  change (((p.setCharge i 0).bindTerms (p.allot i).terms none).adjustClaimed (p.allot i).owner 0
    (p.allot i).requestCost).client c = _
  cases ho : (p.allot i).owner with
  | none => simp [Plant.adjustClaimed]
  | some d =>
    simp only [Plant.adjustClaimed, Plant.client_setClient, Plant.bindTerms_client, Plant.setCharge_client,
      Option.some.injEq]
    by_cases h : c = d
    · subst h; simp
    · simp [h, Ne.symm h]

/-- A hard cut frees a FALLING/FREE allotment without a retire report (R38). -/
theorem Plant.client_hardCutOne (p : Plant) (i : SlotIx) (c : ClientIx) :
    (p.hardCutOne i).client c = { p.client c with claimed := (p.client c).claimed
      - (if (p.allot i).state = .falling .free ∧ (p.allot i).owner = some c then (p.allot i).requestCost
        else 0) } := by
  have hcut : ((p.cutAllotment i).markChanged .other i).client c = p.client c := by
    rw [Plant.markChanged_eq]; rfl
  unfold Plant.hardCutOne
  simp only
  split
  next hs =>
    rw [Plant.client_freeSlot, hcut, Plant.allot_markChanged, if_pos rfl, Plant.allot_cutAllotment, if_pos rfl]
    simp [hs, Allotment.halted]
  next hs =>
    simp only [hs, false_and, if_false, Nat.sub_zero]
    exact hcut

/-! ### All cuts -/

/-- What hard cuts of the allotments `vs` make of the plant, but for the wait queue. -/
structure Plant.CutsAll (p q : Plant) (vs : List Handle) : Prop where
  allots : ∀ j, q.allot j = if j ∈ vs.map Handle.slot then (p.allot j).hardCut else p.allot j
  committed : q.eng.committed = p.eng.committed - (vs.map fun x => (p.allot x.slot).charge).sum
  grants : q.eng.grants = p.eng.grants.filter fun x => x.slot ∉ vs.map Handle.slot
  stage : q.eng.stage = p.eng.stage
  levels : q.eng.levels = p.eng.levels
  binding : ∀ n : ChannelIx, q.eng.binding[n] =
    if ∃ x ∈ vs, (p.allot x.slot).state = .falling .free ∧ n ∈ (p.allot x.slot).channels then none
    else p.eng.binding[n]
  out : q.out = p.out.cut (vs.flatMap fun x => (p.allot x.slot).channels)
  clients : ∀ c, q.client c = { p.client c with claimed := (p.client c).claimed
    - ((vs.filter fun x => (p.allot x.slot).state = .falling .free ∧ (p.allot x.slot).owner = some c).map
        fun x => (p.allot x.slot).requestCost).sum }

/-- Hard cuts of distinct slots find each record as it was before the first. -/
theorem Plant.cutsAll (p : Plant) (vs : List Handle) (hn : (vs.map Handle.slot).Nodup) :
    p.CutsAll (vs.foldl (fun q x => q.hardCutOne x.slot) p) vs := by
  induction vs using List.reverseRecOn with
  | nil => exact ⟨by simp, by simp, by simp, rfl, rfl, by simp, rfl, fun _ => rfl⟩
  | append_singleton ws v ih =>
    rw [List.map_append, List.nodup_append] at hn
    obtain ⟨hws, -, hne⟩ := hn
    have hv : v.slot ∉ ws.map Handle.slot := fun h => hne _ h _ (by simp) rfl
    have h := ih hws
    rw [List.foldl_append]
    simp only [List.foldl_cons, List.foldl_nil]
    generalize ws.foldl (fun q x => q.hardCutOne x.slot) p = r at h
    have hr : r.allot v.slot = p.allot v.slot := by rw [h.allots, if_neg hv]
    refine ⟨fun j => ?allots, ?committed, ?grants, ?stage, ?levels, fun n => ?binding, ?out, fun c => ?clients⟩
    case allots =>
      rw [Plant.allot_hardCutOne, hr, h.allots]
      by_cases hj : j = v.slot
      · subst hj; simp [Allotment.hardCut]
      · simp [hj]
    case committed => rw [Plant.committed_hardCutOne, hr, h.committed]; simp [Nat.sub_sub]
    case grants =>
      rw [Plant.grants_hardCutOne, h.grants, List.filter_filter]
      refine List.filter_congr fun e _ => ?_
      simp [not_or, and_comm]
    case stage => exact (r.hardCutOne_stage v.slot).trans h.stage
    case levels => exact (r.levels_hardCutOne v.slot).trans h.levels
    case binding =>
      rw [Plant.binding_hardCutOne, hr, h.binding]
      simp only [List.mem_append, List.mem_singleton, or_and_right, exists_or, exists_eq_left]
      by_cases hb : (p.allot v.slot).state = .falling .free ∧ n ∈ (p.allot v.slot).channels <;> simp [hb]
    case out =>
      rw [Plant.out_hardCutOne, hr, h.out]
      simp [OutputStage.cut, List.foldl_append]
    case clients =>
      rw [Plant.client_hardCutOne, hr, h.clients]
      by_cases hc : (p.allot v.slot).state = .falling .free ∧ (p.allot v.slot).owner = some c <;>
        simp [hc, Nat.sub_sub]

/-! ### The wait queue -/

/-- An entry that joins at the front of its rank stands ahead of its class, and no other class is touched (R47). -/
theorem filter_placeFront (p : Plant) {c : ClassIx} {h : Handle} (hc : p.classOf h = c) (l : List Handle)
    (k : ClassIx) :
    (placeFront p c h l).filter (fun x => p.classOf x = k) =
      ([h].filter fun x => p.classOf x = k) ++ l.filter fun x => p.classOf x = k := by
  obtain ⟨pre, post, rfl, hpl, hpre, -⟩ := placeFront_split p c h l
  rw [hpl, List.filter_append, List.filter_append, List.filter_cons]
  by_cases hk : c = k
  · have hnone : pre.filter (fun x => p.classOf x = k) = [] := by
      rw [List.filter_eq_nil_iff]
      intro e he
      simpa [← hk] using (hpre e he).1
    simp [hnone, hc, hk]
  · simp [hc, hk]

/-- A hard cut takes its slot out of the queue, and puts it ahead of its class unless it is freed (R38). -/
theorem Plant.queue_hardCutOne (p : Plant) (i : SlotIx) (k : ClassIx) :
    (p.hardCutOne i).eng.queue.filter (fun x => p.classOf x = k) =
      ([p.handleOf i].filter fun x => (p.allot x.slot).state ≠ .falling .free ∧ p.classOf x = k)
        ++ (p.eng.queue.filter fun x => x.slot ≠ i).filter fun x => p.classOf x = k := by
  unfold Plant.hardCutOne
  simp only
  split
  next hs =>
    simp [Plant.cutAllotment, Plant.leaveQueue, Plant.handleOf, hs]
  next hs =>
    let r := ((p.cutAllotment i).markChanged .other i).setState i .waiting
    have hrec : ∀ j, (r.allot j).cls = (p.allot j).cls ∧ r.handleOf j = p.handleOf j := fun j => by
      simp only [r, Plant.handleOf, Plant.allot_setState, Plant.allot_markChanged, Plant.allot_cutAllotment]
      by_cases h : j = i <;> simp [h, Allotment.halted]
    have hqueue : r.eng.queue = p.eng.queue.filter fun x => x.slot ≠ i := by
      simp [r, Plant.cutAllotment, Plant.leaveQueue]
    change (placeFront r (r.allot i).cls (r.handleOf i) r.eng.queue).filter _ = _
    rw [placeFront_congr (p := p) (by simp [r, Plant.cutAllotment]) (fun e => (hrec e.slot).1), (hrec i).1, (hrec i).2,
      hqueue,
      filter_placeFront p (c := (p.allot i).cls) (h := p.handleOf i) rfl]
    refine congrArg₂ _ (List.filter_congr fun x hx => ?_) rfl
    rw [List.mem_singleton.mp hx]
    exact decide_eq_decide.mpr (by simp [Plant.handleOf, hs])

/-- Hard cuts keep the lists exact and the queue ordered, where the slots are granted. -/
theorem Plant.listsOk.cuts {p : Plant} (hp : p.listsOk) {vs : List Handle} (hn : (vs.map Handle.slot).Nodup)
    (hg : ∀ x ∈ vs, (p.allot x.slot).state.granted = true) :
    (vs.foldl (fun q x => q.hardCutOne x.slot) p).listsOk := by
  induction vs generalizing p with
  | nil => exact hp
  | cons v vs ih =>
    rw [List.map_cons, List.nodup_cons] at hn
    refine ih (Plant.hardCutOne_listsOk hp (hg v List.mem_cons_self)) hn.2 fun x hx => ?_
    rw [Plant.granted_hardCutOne, if_neg fun he : x.slot = v.slot => hn.1 (he ▸ List.mem_map_of_mem hx)]
    exact hg x (List.mem_cons_of_mem _ hx)

/-- Hard cuts keep the class of an allotment that is not freed. -/
theorem Plant.CutsAll.classOf {p q : Plant} {vs : List Handle} (h : p.CutsAll q vs) {x : Handle}
    (hx : (q.allot x.slot).state ≠ .free) : q.classOf x = p.classOf x := by
  unfold Plant.classOf
  rw [h.allots] at hx ⊢
  split at hx
  next hv =>
    rw [if_pos hv]
    unfold Allotment.hardCut at hx ⊢
    split at hx
    next => exact absurd rfl hx
    next hs => rw [if_neg hs]; rfl
  next hv => rw [if_neg hv]

/-- After hard cuts each class of the queue holds those of its allotments that wait again, the one cut last ahead, and
then the entries that were not cut (R37, R38). -/
theorem Plant.queue_cuts {p : Plant} (hp : p.listsOk) {vs : List Handle} (hn : (vs.map Handle.slot).Nodup)
    (hg : ∀ x ∈ vs, x ∈ p.eng.grants) (k : ClassIx) :
    (vs.foldl (fun q x => q.hardCutOne x.slot) p).eng.queue.filter (fun x => p.classOf x = k) =
      (vs.reverse.filter fun x => (p.allot x.slot).state ≠ .falling .free ∧ p.classOf x = k)
        ++ p.eng.queue.filter fun x => x.slot ∉ vs.map Handle.slot ∧ p.classOf x = k := by
  induction vs using List.reverseRecOn with
  | nil => simp
  | append_singleton ws v ih =>
    have ⟨⟨_, hgr, _⟩, _⟩ := hp
    have hgranted : ∀ x ∈ ws ++ [v], (p.allot x.slot).state.granted = true := fun x hx => hgr.mem_iff_slot (hg x hx)
    have hq := hp.cuts hn hgranted
    rw [List.foldl_append] at hq ⊢
    have hnd := hn
    rw [List.map_append, List.nodup_append] at hn
    obtain ⟨hws, -, hne⟩ := hn
    have hv : v.slot ∉ ws.map Handle.slot := fun h => hne _ h _ (by simp) rfl
    have hcuts := p.cutsAll ws hws
    have hall := p.cutsAll (ws ++ [v]) hnd
    rw [List.foldl_append] at hall
    have hr := hp.cuts hws fun x hx => hgranted x (List.mem_append_left _ hx)
    have ih := ih hws fun x hx => hg x (List.mem_append_left _ hx)
    simp only [List.foldl_cons, List.foldl_nil] at hq hall ⊢
    generalize ws.foldl (fun q x => q.hardCutOne x.slot) p = r at *
    have hrv : r.allot v.slot = p.allot v.slot := by rw [hcuts.allots, if_neg hv]
    have queued {t : Plant} (ht : t.listsOk) {x : Handle} (hx : x ∈ t.eng.queue) : (t.allot x.slot).state ≠ .free :=
      fun hf => by
        have ⟨⟨hqueue, _⟩, _⟩ := ht
        simpa [hf, AllotState.queued] using hqueue.mem_iff_slot hx
    have hclass {x : Handle} (hx : x ∈ r.eng.queue) : r.classOf x = p.classOf x := hcuts.classOf (queued hr hx)
    have hclass' {x : Handle} (hx : x ∈ (r.hardCutOne v.slot).eng.queue) : p.classOf x = r.classOf x :=
      (hall.classOf (queued hq hx)).symm.trans ((r.cutsAll [v] (by simp)).classOf (queued hq hx))
    have hhandle : r.handleOf v.slot = v := by
      rw [Plant.handleOf, hrv]
      exact (hgr.handle (hg v (by simp))).symm
    have hkept : ∀ x ∈ ws.reverse, x.slot ≠ v.slot := fun x hx he =>
      hv (he ▸ List.mem_map_of_mem (List.mem_reverse.mp hx))
    calc (r.hardCutOne v.slot).eng.queue.filter (fun x => p.classOf x = k)
        = (r.hardCutOne v.slot).eng.queue.filter fun x => r.classOf x = k :=
          List.filter_congr fun x hx => by rw [hclass' hx]
      _ = ([v].filter fun x => (p.allot x.slot).state ≠ .falling .free ∧ p.classOf x = k)
          ++ (r.eng.queue.filter fun x => p.classOf x = k).filter fun x => x.slot ≠ v.slot := by
          rw [r.queue_hardCutOne, hhandle]
          rw [List.filter_filter, List.filter_filter]
          refine congrArg₂ _ (List.filter_congr fun x hx => ?_) (List.filter_congr fun x hx => ?_)
          · rw [List.mem_singleton.mp hx]
            exact decide_eq_decide.mpr (by simp only [Plant.classOf, hrv])
          · rw [hclass hx, Bool.and_comm]
      _ = _ := by
          rw [ih, List.filter_append, List.filter_filter, List.filter_filter, List.reverse_append,
            List.reverse_singleton, List.filter_append, List.append_assoc]
          refine congrArg₂ _ rfl (congrArg₂ _ (List.filter_congr fun x hx => ?_) (List.filter_congr fun x hx => ?_))
          · simp [hkept x hx]
          · simp [and_comm, and_left_comm]

/-! ### The output stage -/

/-- The reports that cuts of the allotments `vs` leave are of channels that none of them names (R72). -/
theorem Plant.CutsAll.reports {p q : Plant} {vs : List Handle} (h : p.CutsAll q vs) :
    q.out.reports = p.out.reports.filter fun r => ¬∃ x ∈ vs, r.channel ∈ (p.allot x.slot).channels := by
  rw [h.out, OutputStage.reports_cut]
  simp only [List.mem_flatMap]

theorem Plant.CutsAll.out_frame {p q : Plant} {vs : List Handle} (h : p.CutsAll q vs) :
    q.out = { p.out with
      channels := q.out.channels
      reports := p.out.reports.filter fun r => ¬∃ x ∈ vs, r.channel ∈ (p.allot x.slot).channels } := by
  have hframe := p.out.cut_frame (vs.flatMap fun x => (p.allot x.slot).channels)
  rw [← h.out, h.reports] at hframe
  exact hframe

theorem Plant.CutsAll.chan {p q : Plant} {vs : List Handle} (h : p.CutsAll q vs) (n : ChannelIx) :
    q.chan n = if ∃ x ∈ vs, n ∈ (p.allot x.slot).channels then (p.chan n).cut else p.chan n := by
  unfold Plant.chan
  rw [h.out, OutputStage.channels_cut]
  simp only [List.mem_flatMap]

/-! ### The hard cut -/

/-- The hard cut of sound lists takes the allotments of R37 and cuts them one after the other. -/
theorem Plant.exists_taken {p : Plant} {eff : Nat} (ha : p.accountsAgree)
    (hg : p.lists p.eng.grants AllotState.granted) (hc : p.chargeLaw) (hlt : eff < p.eng.committed) :
    ∃ taken : List Handle, cutWalk eff p.cutOrder p = taken.foldl (fun q x => q.hardCutOne x.slot) p
      ∧ (taken.map Handle.slot).Nodup
      ∧ takenInOrder p.cutBefore (fun x => x ∈ p.eng.grants) (fun x => (p.allot x.slot).charge)
          (p.eng.committed - eff) taken := by
  have hperm := Plant.cutOrder_perm hg
  have hslots : (p.cutOrder.map Handle.slot).Nodup := (hperm.map _).nodup_iff.mpr hg.slots_nodup
  have hsum : p.eng.committed = (p.cutOrder.map fun x => (p.allot x.slot).charge).sum := by
    rw [(hperm.map _).sum_eq]
    exact Plant.committed_eq_grants ha hg hc
  have hneed : 0 < p.eng.committed - eff := Nat.sub_pos_of_lt hlt
  obtain ⟨taken, htaken⟩ := takeVictims_some (l := p.cutOrder) (gain := fun x => (p.allot x.slot).charge)
    (need := p.eng.committed - eff) (by omega) hneed
  have hpre : taken <+: p.cutOrder := ((takeVictims_iff hneed).mp htaken).1
  exact ⟨taken, cutWalk_eq_foldl hslots hlt htaken, hslots.sublist (hpre.sublist.map _),
    (takenInOrder_iff (p.cutBefore_asymm hg.1) p.cutOrder_pairwise (fun _ => Plant.mem_cutOrder hg) hneed).mpr htaken⟩

/-- Among handles of present allotments, a slot is taken with its handle. -/
theorem Plant.slot_mem_iff {p : Plant} {vs : List Handle} (hvs : ∀ y ∈ vs, y = p.handleOf y.slot) {x : Handle}
    (hx : x = p.handleOf x.slot) : x.slot ∈ vs.map Handle.slot ↔ x ∈ vs := by
  refine ⟨fun hs => ?_, fun hs => List.mem_map_of_mem hs⟩
  obtain ⟨y, hy, hyx⟩ := List.mem_map.mp hs
  rwa [hx, ← hyx, ← hvs y hy]

end Sys2Proof.Machine

open Sys2Proof Sys2Proof.Machine in
/-- Settles O48: the fall of DERATEn brings the walk over the cut order, which takes the allotments of R37; what their
cuts do together is read off field by field. -/
theorem hardCutStopsWithinTheCeiling : Obligations.HardCutStopsWithinTheCeiling := by
  intro s h hpin hnorm _ ha hl hc eff hcom hlt e charge
  have ⟨hqueue, hgr, _, _⟩ := hl
  obtain ⟨taken, hwalk, hslots, horder⟩ := Plant.exists_taken ha hgr hc hcom
  have ⟨hgrants, _, _, hreach, hshort⟩ := horder
  have hhandle : ∀ x ∈ taken, x = s.plant.handleOf x.slot := fun x hx => hgr.handle (hgrants x hx)
  have hcuts := s.plant.cutsAll taken hslots
  refine ⟨{ s with plant := s.plant.hardCut eff, pins := { s.pins with derateLow := true }
                   lim := { s.lim with derate := .derated, effective := eff } }, taken,
    taken.foldl (fun q x => q.hardCutOne x.slot) s.plant, ?exec, ?state, ?settle, rfl, horder, ?committed, ?within,
    fun pre hpre hne => ?above, fun j hj => ?others, fun x hx => ?record, ?grants, hcuts.stage, hcuts.levels,
    fun ho => ⟨?ordered, fun k => ?classes⟩, ?binding, ?out, fun n => ?chan, ?clients⟩
  case exec =>
    rw [exec_deratenFalls h hpin, State.derateFalls_normal (s := s.setDerateLow true) hnorm]
    exact congrArg _ (State.recompute_cut (eff := eff) rfl hlt hcom)
  case state => rfl
  case settle =>
    rw [← hwalk]
    rfl
  case committed => exact hcuts.committed
  case within =>
    rw [hcuts.committed]
    exact Nat.sub_le_iff_le_add'.mpr (Nat.sub_le_iff_le_add.mp hreach)
  case above =>
    have hlen : pre.length < taken.length :=
      lt_of_le_of_ne hpre.length_le fun he => hne (hpre.eq_of_length he)
    have hsum := hshort pre.length hlen
    rw [← List.prefix_iff_eq_take.mp hpre] at hsum
    rw [(s.plant.cutsAll pre (hslots.sublist (hpre.sublist.map _))).committed]
    exact Nat.lt_sub_iff_add_lt'.mpr (Nat.lt_sub_iff_add_lt.mp hsum)
  case others => rw [hcuts.allots, if_neg hj]
  case record =>
    rw [hcuts.allots, if_pos (List.mem_map_of_mem hx)]
    rfl
  case grants =>
    rw [hcuts.grants]
    exact List.filter_congr fun x hx => by simp only [Plant.slot_mem_iff hhandle (hgr.handle hx)]
  case ordered =>
    have hok : s.plant.listsOk := ⟨hl, ho⟩
    exact (hok.cuts hslots fun x hx => hgr.mem_iff_slot (hgrants x hx)).2
  case classes =>
    refine (Plant.queue_cuts ⟨hl, ho⟩ hslots hgrants k).trans (congrArg _ (List.filter_congr fun x hx => ?_))
    simp only [Plant.slot_mem_iff hhandle (hqueue.handle hx)]
  case binding => exact hcuts.binding
  case out => exact hcuts.out_frame
  case chan => exact (hcuts.chan n).trans rfl
  case clients => exact hcuts.clients
end

section
/-! The lists through every kind of step (R45, R49, R62): acts, a CLAIM's new entry, a hard cut, HALT and the resets. -/

namespace Sys2Proof.Machine

theorem Plant.Acts.listsOk {eff : Nat} {p q : Plant} (h : Plant.Acts eff p q) (hp : p.listsOk) : q.listsOk := by
  induction h with
  | refl => exact hp
  | tail _ ha ih => exact ha.listsOk ih

/-- The walk of a hard cut over distinct granted slots (R37, R38). -/
theorem cutWalk_listsOk {eff : Nat} (l : List Handle) {p : Plant} (hp : p.listsOk) (hn : (l.map Handle.slot).Nodup)
    (hg : ∀ h ∈ l, (p.allot h.slot).state.granted = true) : (cutWalk eff l p).listsOk := by
  induction l generalizing p with
  | nil => exact hp
  | cons h rest ih =>
    unfold cutWalk
    split
    · exact hp
    rw [List.map_cons, List.nodup_cons] at hn
    refine ih (Plant.hardCutOne_listsOk hp (hg h List.mem_cons_self)) hn.2 fun g hgr => ?_
    rw [Plant.granted_hardCutOne, if_neg fun he : g.slot = h.slot => hn.1 (he ▸ List.mem_map_of_mem hgr)]
    exact hg g (List.mem_cons_of_mem _ hgr)

theorem Plant.ceilingReport_listsOk {p : Plant} (hp : p.listsOk) (old new : Nat) : (p.ceilingReport old new).listsOk := by
  unfold Plant.ceilingReport
  split
  · exact (p.passIf_acts new .other true).listsOk hp
  split
  · exact hp
  · obtain ⟨hn, hg⟩ := Plant.cutOrder_slots hp
    exact (Plant.settleStage_acts _ new true).listsOk
      (cutWalk_listsOk _ hp hn fun h hh => (hg h.slot).mp (List.mem_map_of_mem hh))

theorem State.recompute_listsOk {s : State} (hp : s.plant.listsOk) : s.recompute.plant.listsOk := by
  unfold State.recompute
  simp only
  split
  · exact hp
  · exact Plant.ceilingReport_listsOk hp _ _

/-- Empty lists and an empty stage hold what there is when every slot is FREE. -/
theorem Plant.listsOk.ofFree {p : Plant} (hf : ∀ i, (p.allot i).state = .free) (hq : p.eng.queue = [])
    (hg : p.eng.grants = []) (hs : p.eng.stage = none) : p.listsOk := by
  refine ⟨⟨?queue, ?grants, ?exact, ?current⟩, ?order⟩
  case queue => rw [hq]; exact Plant.lists_nil fun i => by rw [hf i]; rfl
  case grants => rw [hg]; exact Plant.lists_nil fun i => by rw [hf i]; rfl
  case exact => simp [Plant.stageExact, hf, hs]
  case current => simp [Plant.stageCurrent, hs]
  case order => rw [Plant.queueOrdered, hq]; exact .nil

/-- Every kind of step keeps the lists exact and the queue ordered. -/
theorem State.Effect.listsOk {s t : State} (h : s.Effect t) (hs : s.plant.listsOk) : t.plant.listsOk := by
  cases h with
  | acts h => exact h.listsOk hs
  | claim c p i hpass h =>
    obtain ⟨-, -, -, -, -, -, -, -, hi⟩ := hpass
    exact h.listsOk (Plant.createAllotment_listsOk hs (Plant.lowestFree_free hi) c p)
  | channel n _ _ _ _ _ h => rw [h]; exact hs.congr (fun _ => rfl) rfl rfl rfl rfl
  | configured c x _ _ h => rw [h]; exact hs.congr (fun _ => rfl) rfl rfl rfl rfl
  | relimit s' _ hr h => rw [h]; exact State.recompute_listsOk (by rw [hr.plant]; exact hs)
  | rederate _ _ _ h => rw [h]; exact hs
  | halt h => rw [h]; exact .ofFree s.plant.haltFreed_free rfl rfl rfl
  | reset h => rw [h]; exact ⟨Plant.listsExact_reset, Plant.queueOrdered_reset⟩
  | held h => rw [h]; exact hs
  | supply h => rw [h]; exact hs

end Sys2Proof.Machine

open Sys2Proof Sys2Proof.Machine in
/-- Settles O6: every kind of step keeps the lists. -/
theorem queueGrantsAndStageStayExact : Obligations.QueueGrantsAndStageStayExact := by
  intro s t hs h
  rcases step_effect h with rfl | ⟨rest, he⟩
  · exact hs
  · exact he.listsOk hs
end

section
/-! A release of one allotment by its state (R87 to R91), field by field: nothing changes, its slot is freed, or a fall to
FREE starts. -/

namespace Sys2Proof.Machine

/-- The states in which a release starts a fall: those of the grant list but FALLING/FREE (R88 to R90). -/
def AllotState.driven (st : AllotState) : Bool := st.granted && !(st == .falling .free)

theorem AllotState.driven_iff {st : AllotState} : st.driven = true ↔ st.granted = true ∧ st ≠ .falling .free := by
  simp [AllotState.driven]

/-- A release does nothing, frees the slot, or starts a fall. -/
theorem AllotState.release_cases (st : AllotState) :
    (st = .free ∨ st = .falling .free) ∨ st.idle = true ∨ st.driven = true := by
  match st with
  | .free => exact .inl (.inl rfl)
  | .falling .free => exact .inl (.inr rfl)
  | .waiting | .staged | .tripped => exact .inr (.inl rfl)
  | .rising | .running | .reduced => exact .inr (.inr rfl)
  | .falling .waiting | .falling .reduced | .falling .running => exact .inr (.inr rfl)

theorem AllotState.not_idle_of_driven {st : AllotState} (h : st.driven = true) : st.idle = false := by
  cases st <;> simp_all [AllotState.driven, AllotState.granted, AllotState.outcome?, AllotState.idle]

/-! ### The record a release leaves (R87, R94) -/

/-- A fall to FREE: every target 0, at the charge of the duties applied now (R71, R88). -/
theorem Plant.releasedRecord_driven {a : Allotment} (h : a.state.driven = true) (p : Plant) (flagged : Bool) :
    p.releasedRecord flagged a = { a with
      terms := a.terms.map fun t => { t with target := 0 }, state := .falling .free
      charge := p.transitionCharge a.terms fun _ => 0
      changed := a.changed || flagged, commandId := a.commandId + 1, unsettled := a.terms.map Term.channel } := by
  have hcharge : (p.transitionCharge a.terms fun _ => 0)
      = (a.terms.map fun t => costAt (p.chan t.channel).rating (p.chan t.channel).applied).sum := by
    simp only [Plant.transitionCharge, Plant.costOf, Nat.max_zero]
  rw [hcharge]
  unfold Plant.releasedRecord
  split <;> simp_all [AllotState.driven, AllotState.granted, AllotState.outcome?]

theorem Plant.releasedRecord_idle {a : Allotment} (h : a.state.idle = true) (p : Plant) (flagged : Bool) :
    p.releasedRecord flagged a = a.freed := by
  unfold Plant.releasedRecord
  split <;> simp_all [AllotState.idle] <;> rfl

theorem Plant.releasedRecord_still {a : Allotment} (h : a.state = .free ∨ a.state = .falling .free) (p : Plant)
    (flagged : Bool) : p.releasedRecord flagged a = a := by
  unfold Plant.releasedRecord
  split <;> simp_all

/-- The fall to FREE that `Plant.releaseDriven` starts, as the record of R94. -/
theorem Plant.inMotion_released {a : Allotment} (h : a.state.driven = true) (p : Plant) (o : Origin) (i : SlotIx) :
    (p.inMotion a (fun _ => 0) (some .free)).marked o i = p.releasedRecord (!o.spares i a) a := by
  have hst : p.transitionState a.terms (fun _ => 0) (some .free) = .falling .free :=
    Plant.transitionState_of_le _ fun _ _ => Nat.zero_le _
  rw [Plant.releasedRecord_driven h]
  simp only [Plant.inMotion, Plant.inTransition, Allotment.marked, hst]
  cases o <;> rfl

/-! ### The fields of a release -/

section Release
variable (p : Plant) (o : Origin) (retires : Bool) (i : SlotIx)

/-- The plant with slot `i` out of the queue, where it stands in it (R48). -/
def Plant.dequeued : Plant := if (p.allot i).state.queued then p.leaveQueue i else p

theorem Plant.dequeued_frame :
    (p.dequeued i).eng = { p.eng with queue :=
        if (p.allot i).state.queued then p.eng.queue.filter fun h => h.slot ≠ i else p.eng.queue }
      ∧ (p.dequeued i).out = p.out ∧ (p.dequeued i).clients = p.clients := by
  unfold Plant.dequeued
  split <;> exact ⟨rfl, rfl, rfl⟩

variable {p i}

theorem Plant.releaseOne_still (h : (p.allot i).state = .free ∨ (p.allot i).state = .falling .free) :
    p.releaseOne o retires i = p := by
  rcases h with h | h <;> simp [Plant.releaseOne, h]

/-- A release of an allotment that drives its channels starts its fall; a REDUCED one leaves the queue (R88 to R90). -/
theorem Plant.releaseOne_driven (h : (p.allot i).state.driven = true) :
    p.releaseOne o retires i = (p.dequeued i).releaseDriven o i retires := by
  unfold Plant.releaseOne Plant.dequeued
  split <;> simp_all [AllotState.driven, AllotState.granted, AllotState.outcome?, AllotState.queued]

theorem Plant.withoutEntry_allot (j : SlotIx) : (p.withoutEntry i).allot j = p.allot j := by
  obtain ⟨he, -⟩ := p.withoutEntry_frame i
  simp [Plant.allot, he]

theorem Plant.dequeued_allot (j : SlotIx) : (p.dequeued i).allot j = p.allot j := by
  obtain ⟨he, -⟩ := p.dequeued_frame i
  simp [Plant.allot, he]

variable (p i)

/-- The record of a released allotment is that of R94; no other record changes. -/
theorem Plant.allot_releaseOne (j : SlotIx) :
    (p.releaseOne o retires i).allot j =
      if j = i then p.releasedRecord (!o.spares i (p.allot i)) (p.allot i) else p.allot j := by
  rcases (p.allot i).state.release_cases with h | h | h
  · rw [Plant.releaseOne_still o retires h, Plant.releasedRecord_still h]
    split
    next hj => rw [hj]
    next => rfl
  · rw [Plant.releaseOne_idle h, Plant.allot_releaseIdle, Plant.releasedRecord_idle h]
    simp only [Plant.withoutEntry_allot]
  · rw [Plant.releaseOne_driven o retires h, Plant.allot_releaseDriven]
    simp only [Plant.dequeued_allot]
    rw [Plant.inMotion_congr (p.dequeued_frame i).2.1, Plant.inMotion_released h]

/-- What a release leaves of the engine but for records, bindings and the committed charge. -/
theorem Plant.releaseOne_lists :
    (p.releaseOne o retires i).eng.queue =
        (if (p.allot i).state.queued then p.eng.queue.filter fun h => h.slot ≠ i else p.eng.queue)
      ∧ (p.releaseOne o retires i).eng.grants = p.eng.grants
      ∧ (p.releaseOne o retires i).eng.stage = (if (p.allot i).state = .staged then none else p.eng.stage)
      ∧ (p.releaseOne o retires i).eng.levels = p.eng.levels := by
  rcases (p.allot i).state.release_cases with h | h | h
  · rw [Plant.releaseOne_still o retires h]
    rcases h with h | h <;> simp [h, AllotState.queued]
  · obtain ⟨hq, hg, hs, hl⟩ := (p.withoutEntry i).releaseIdle_frame i retires
    have he := (p.withoutEntry_frame i).1
    rw [Plant.releaseOne_idle h, hq, hg, hs, hl, he]
    refine ⟨?_, rfl, rfl, rfl⟩
    cases hst : (p.allot i).state <;> simp_all [AllotState.idle, AllotState.queued]
  · obtain ⟨he, -⟩ := (p.dequeued i).releaseDriven_frame o i retires
    have hd := (p.dequeued_frame i).1
    have hns : (p.allot i).state ≠ .staged := AllotState.ne_staged_of_granted (AllotState.driven_iff.mp h).1
    rw [Plant.releaseOne_driven o retires h, he, if_neg hns]
    simp [Plant.fallToFree, hd]

/-- A freed slot's channels are unbound (R87), and a fall keeps its own (R88). -/
theorem Plant.binding_releaseOne (n : ChannelIx) :
    (p.releaseOne o retires i).eng.binding[n] =
      if (p.allot i).state.idle = true ∧ n ∈ (p.allot i).terms.map Term.channel then none else p.eng.binding[n] := by
  rcases (p.allot i).state.release_cases with h | h | h
  · rw [Plant.releaseOne_still o retires h]
    rcases h with h | h <;> simp [h, AllotState.idle]
  · rw [Plant.releaseOne_idle h, (Plant.releaseIdle_eng _ i retires).1, Plant.binding_freeSlot, Plant.withoutEntry_allot,
      (p.withoutEntry_frame i).1]
    simp only [h, true_and]
  · rw [Plant.releaseOne_driven o retires h, ((p.dequeued i).releaseDriven_frame o i retires).1]
    simp [Plant.fallToFree, (p.dequeued_frame i).1, AllotState.not_idle_of_driven h]

/-- A fall is one transition command (R88); nothing else reaches the output stage. -/
theorem Plant.out_releaseOne :
    (p.releaseOne o retires i).out =
      if (p.allot i).state.driven then p.out.command (p.allot i).terms (fun _ => 0) ((p.allot i).commandId + 1)
      else p.out := by
  rcases (p.allot i).state.release_cases with h | h | h
  · rw [Plant.releaseOne_still o retires h]
    rcases h with h | h <;> simp [h, AllotState.driven, AllotState.granted, AllotState.outcome?]
  · have hd : (p.allot i).state.driven = false := by
      by_contra hd
      simp [AllotState.not_idle_of_driven (by simpa using hd)] at h
    rw [Plant.releaseOne_idle h, (Plant.releaseIdle_eng _ i retires).2, (p.withoutEntry_frame i).2.1, hd]
    rfl
  · rw [Plant.releaseOne_driven o retires h, ((p.dequeued i).releaseDriven_frame o i retires).2, Plant.dequeued_allot,
      (p.dequeued_frame i).2.1, if_pos h]

/-- The fall's charge takes the place of the charge held (R70, R89). -/
theorem Plant.committed_releaseOne_driven (h : (p.allot i).state.driven = true) :
    (p.releaseOne o retires i).eng.committed
      = p.eng.committed - (p.allot i).charge + p.transitionCharge (p.allot i).terms fun _ => 0 := by
  have hd := p.dequeued_frame i
  rw [Plant.releaseOne_driven o retires h, ((p.dequeued i).releaseDriven_frame o i retires).1]
  simp only [Plant.fallToFree, Plant.markChanged_committed, Plant.startTransition_committed, Plant.dequeued_allot, hd.1]
  simp only [Plant.transitionCharge, Plant.costOf, Plant.chan, hd.2.1]

/-- A retire report adds one to the owner's retired count, up to 255 (R140). -/
theorem Plant.client_retire (d : ClientIx) :
    (p.retire i).client d = { p.client d with
      retired := if (p.allot i).owner = some d then min 255 ((p.client d).retired + 1)
        else (p.client d).retired } := by
  unfold Plant.retire
  cases ho : (p.allot i).owner with
  | none => simp
  | some c =>
    simp only [Plant.client_setClient, Option.some.injEq, Config.maxRetired]
    by_cases h : d = c
    · subst h; simp
    · simp [h, Ne.symm h]

/-- The owner's claimed total falls where a slot is freed, and its retired count rises where the release retires
(R16, R136, R140). -/
theorem Plant.client_releaseOne (d : ClientIx) :
    (p.releaseOne o retires i).client d = { p.client d with
      claimed := (p.client d).claimed
        - (if (p.allot i).state.idle = true ∧ (p.allot i).owner = some d then (p.allot i).requestCost else 0)
      retired := if retires = true ∧ (p.allot i).state.releasable = true ∧ (p.allot i).owner = some d then
        min 255 ((p.client d).retired + 1) else (p.client d).retired } := by
  rcases (p.allot i).state.release_cases with h | h | h
  · rw [Plant.releaseOne_still o retires h]
    rcases h with h | h <;> simp [h, AllotState.idle, AllotState.releasable]
  · have hrel : (p.allot i).state.releasable = true := by
      cases hs : (p.allot i).state <;> simp_all [AllotState.idle, AllotState.releasable]
    have hcl : (p.withoutEntry i).client d = p.client d := by simp only [Plant.client, (p.withoutEntry_frame i).2.2]
    rw [Plant.releaseOne_idle h]
    cases retires with
    | false => simp [Plant.releaseIdle, Plant.client_freeSlot, Plant.withoutEntry_allot, hcl, h]
    | true =>
      simp [Plant.releaseIdle, Plant.client_freeSlot, Plant.client_retire, Plant.withoutEntry_allot, hcl, h, hrel]
  · have hrel : (p.allot i).state.releasable = true := by
      cases hs : (p.allot i).state <;> simp_all [AllotState.driven, AllotState.granted, AllotState.outcome?, AllotState.releasable]
    have hni := AllotState.not_idle_of_driven h
    have hfall : (((p.dequeued i).fallToFree i).markChanged o i).client d = p.client d := by
      simp [Plant.client, Plant.fallToFree, (p.dequeued_frame i).2.2]
    have howner : (((p.dequeued i).fallToFree i).markChanged o i).allot i
        = p.releasedRecord (!o.spares i (p.allot i)) (p.allot i) := by
      have := (p.dequeued i).allot_releaseDriven o i false i
      rw [if_pos rfl, Plant.dequeued_allot, Plant.inMotion_congr (p.dequeued_frame i).2.1,
        Plant.inMotion_released h] at this
      exact this
    rw [Plant.releaseOne_driven o retires h]
    cases retires with
    | false => simp [Plant.releaseDriven, hfall, hni]
    | true =>
      simp only [Plant.releaseDriven, if_true, Plant.client_retire, hfall, howner, Plant.releasedRecord_driven h]
      simp [hni, hrel]

end Release

end Sys2Proof.Machine
end
section
/-! What a pass leaves of an allotment it does not act on, and who may ask for an allotment; then the statement on the
RELEASE of an allotment that drives its channels. -/

namespace Sys2Proof.Machine

/-! ### What a pass leaves alone -/

/-- The states that a pass never acts on: only a WAITING or a REDUCED entry is granted, topped up or staged, and only a
RISING, RUNNING or REDUCED allotment is a victim (R54, R56, R59, R60, R62). -/
def AllotState.bystands (st : AllotState) : Bool := !(st == .waiting) && !st.sheddable

/-- The plan for a WAITING entry acts on the entry and on its victims only (R58 to R62). -/
theorem Plant.plan_allot_bystander {p q : Plant} {eff : Nat} {o : Origin} {i j : SlotIx}
    (hs : (p.allot i).state = .waiting) (hj : (p.allot j).state.bystands = true) (h : p.plan eff o i = some q) :
    q.allot j = p.allot j := by
  have hji : j ≠ i := by rintro rfl; simp [AllotState.bystands, hs] at hj
  have staged {r : Plant} (hr : r.allot j = p.allot j) : (r.stageEntry o i).allot j = p.allot j := by
    rw [Plant.allot_stageEntry, if_neg hji, hr]
  have spared {vs : List Handle} (hv : ∀ v ∈ vs, (p.allot v.slot).state.sheddable = true) :
      j ∉ vs.map Handle.slot := by
    intro hm
    obtain ⟨v, hvm, rfl⟩ := List.mem_map.mp hm
    simp [AllotState.bystands, hv v hvm] at hj
  unfold Plant.plan at h
  simp only at h
  split at h
  next => cases h; exact staged rfl
  split at h
  next vs hvs =>
    cases h
    have hpre := takeVictims_prefix hvs
    have hrun : ∀ v ∈ vs, (p.allot v.slot).state = .running ∧ (p.allot v.slot).floor.isSome = true := fun v hv =>
      let hc := mem_reductionCandidates.mp (hpre.subset hv); ⟨hc.2.1, hc.2.2.1⟩
    obtain ⟨-, -, ho⟩ := Plant.reduce_chain (eff := eff) (o := o) vs p hrun fun hd =>
      (Plant.victimOrder_nodup hd).sublist ((hpre.sublist.trans List.filter_sublist).map _)
    exact staged (ho j (spared fun v hv => by rw [(hrun v hv).1]; rfl))
  split at h
  next vs hvs =>
    cases h
    have hpre := takeVictims_prefix hvs
    have hshed : ∀ v ∈ vs, (p.allot v.slot).state.sheddable = true := fun v hv =>
      (mem_sheddingCandidates.mp (hpre.subset hv)).2.1
    obtain ⟨-, -, ho⟩ := Plant.shed_chain (eff := eff) (o := o) vs p hshed fun hd =>
      (Plant.victimOrder_nodup hd).sublist ((hpre.sublist.trans List.filter_sublist).map _)
    exact staged (ho j (spared hshed))
  next => cases h

/-- A walk of the queue leaves the record of a bystander (R53 to R57). -/
theorem passWalk_allot_bystander {eff : Nat} {o : Origin} {j : SlotIx} (l : List Handle) {p : Plant}
    (hj : (p.allot j).state.bystands = true) : (passWalk eff o l p).allot j = p.allot j := by
  induction l generalizing p with
  | nil => rfl
  | cons h rest ih =>
    have acted {q : Plant} (hq : q.allot j = p.allot j) : (passWalk eff o rest q).allot j = p.allot j :=
      (ih (by rw [hq]; exact hj)).trans hq
    have hne {st : AllotState} (hs : (p.allot h.slot).state = st) (hb : st.bystands = false) : j ≠ h.slot := by
      rintro rfl
      rw [hs, hb] at hj
      cases hj
    unfold passWalk
    simp only
    split
    case h_1 hs =>
      split
      · exact acted (by rw [Plant.allot_topUp, if_neg (hne hs rfl)])
      · exact ih hj
    case h_2 hs =>
      split
      · exact ih hj
      split
      · exact acted (by rw [Plant.allot_grant, Plant.allot_topUp, if_neg (hne hs rfl)])
      split
      next q hq => exact Plant.plan_allot_bystander hs hj hq
      next => rfl
    all_goals exact ih hj

theorem Plant.passIf_allot_bystander {p : Plant} {j : SlotIx} (hj : (p.allot j).state.bystands = true) (eff : Nat)
    (o : Origin) (t : Bool) : (p.passIf eff o t).allot j = p.allot j := by
  unfold Plant.passIf
  split
  · exact passWalk_allot_bystander _ hj
  · rfl

/-- The pass of an event as the statements write it: a walk of the queue, where a trigger finds the stage empty (R52). -/
theorem Plant.passIf_eq (p : Plant) (eff : Nat) (o : Origin) (t : Bool) :
    p.passIf eff o t = if p.eng.stage = none ∧ t = true then passWalk eff o p.eng.queue p else p := by
  cases hs : p.eng.stage <;> cases t <;> simp [Plant.passIf, Plant.pass, hs]

/-! ### Who asks for an allotment -/

section Asks
variable {s : State} {c : ClientIx} {i : SlotIx} {snd : Sender}

/-- The owner, or the supervisor, is a present sender who passes the ownership test (R6, R86). -/
theorem State.ownerAsks.sender (h : s.ownerAsks c i) (hsnd : snd = .client c ∨ snd = .supervisor) :
    s.present snd ∧ (snd = .supervisor ∨ (s.plant.allot i).owner = clientOf snd) := by
  obtain ⟨-, hact, -, hown⟩ := h
  rcases hsnd with rfl | rfl
  · exact ⟨State.present_client hact, .inr hown⟩
  · exact ⟨s.present_supervisor, .inl rfl⟩

theorem originOf_eq (hsnd : snd = .client c ∨ snd = .supervisor) (i : SlotIx) :
    originOf snd i = if snd = .supervisor then .other else .owner i := by
  rcases hsnd with rfl | rfl <;> rfl

/-- Only a request of the supervisor on an allotment flags it (R14, R91, R124). -/
theorem originOf_spares (hsnd : snd = .client c ∨ snd = .supervisor) (i : SlotIx) (a : Allotment) :
    (!(originOf snd i).spares i a) = decide (snd = .supervisor) := by
  rcases hsnd with rfl | rfl <;> simp [originOf, Origin.spares]

end Asks

/-! ### RELEASE of an allotment that drives its channels (R88 to R92) -/

theorem Plant.clients_eq_set {p q : Plant} {c : ClientIx} {x : Client}
    (h : ∀ d, q.client d = if d = c then x else p.client d) : q.clients = p.clients.set c x := by
  refine Vector.ext fun k hk => ?_
  have hd : q.clients[k] = if (⟨k, hk⟩ : ClientIx) = c then x else p.clients[k] := h ⟨k, hk⟩
  rw [hd, Vector.getElem_set]
  simp only [Fin.ext_iff, eq_comm]

theorem Plant.clients_ext {p q : Plant} (h : ∀ d, q.client d = p.client d) : q.clients = p.clients :=
  Vector.ext fun k hk => h ⟨k, hk⟩

/-- The plant a RELEASE leaves before its pass: a fall to FREE from the duties applied now; the supervisor's RELEASE
flags and retires the allotment. -/
def Plant.releasedDriven (p : Plant) (c : ClientIx) (i : SlotIx) (snd : Sender) : Plant :=
  let a := p.allot i
  let charge := p.transitionCharge a.terms fun _ => 0
  { eng := { p.eng with
      allots := p.eng.allots.set i { a with
        terms := a.terms.map fun x => { x with target := 0 }, state := .falling .free, charge := charge
        changed := a.changed || decide (snd = .supervisor)
        commandId := a.commandId + 1, unsettled := a.terms.map Term.channel }
      queue := if a.state = .reduced then p.eng.queue.filter fun h => h.slot ≠ i else p.eng.queue
      committed := p.eng.committed - a.charge + charge }
    out := p.out.command a.terms (fun _ => 0) (a.commandId + 1)
    clients := if snd = .supervisor then p.clients.set c { p.client c with
      retired := min 255 ((p.client c).retired + 1) } else p.clients }

theorem Plant.releaseOne_eq_releasedDriven {p : Plant} {c : ClientIx} {i : SlotIx} {snd : Sender}
    (h : (p.allot i).state.driven = true) (ho : (p.allot i).owner = some c)
    (hsnd : snd = .client c ∨ snd = .supervisor) :
    p.releaseOne (originOf snd i) (clientOf snd).isNone i = p.releasedDriven c i snd := by
  obtain ⟨hg, hne⟩ := AllotState.driven_iff.mp h
  obtain ⟨hqueue, hgrants, hstage, hlevels⟩ := p.releaseOne_lists (originOf snd i) (clientOf snd).isNone i
  have hallots := Plant.allots_eq_set (p.allot_releaseOne (originOf snd i) (clientOf snd).isNone i)
  have hbind : (p.releaseOne (originOf snd i) (clientOf snd).isNone i).eng.binding = p.eng.binding :=
    Vector.ext fun k hk => by
      have := p.binding_releaseOne (originOf snd i) (clientOf snd).isNone i ⟨k, hk⟩
      simpa [AllotState.not_idle_of_driven h] using this
  have hqueued : (p.allot i).state.queued = decide ((p.allot i).state = .reduced) := by
    cases hs : (p.allot i).state <;> simp_all [AllotState.granted, AllotState.outcome?, AllotState.queued]
  refine Plant.eq_of_fields ((Engine.eq_of_levels hlevels).trans ?_) ?_ ?_
  · rw [hallots, hbind, hqueue, hgrants, hstage, Plant.committed_releaseOne_driven p _ _ i h, hqueued,
      if_neg (AllotState.ne_staged_of_granted hg), Plant.releasedRecord_driven h, originOf_spares hsnd]
    simp only [decide_eq_true_eq]
    rfl
  · rw [Plant.out_releaseOne, if_pos h]
    rfl
  · have hclient := p.client_releaseOne (originOf snd i) (clientOf snd).isNone i
    have hrel : (p.allot i).state.releasable = true := by
      simp [AllotState.releasable, hne, AllotState.ne_free_of_granted hg]
    simp only [AllotState.not_idle_of_driven h, hrel, ho, Option.some.injEq] at hclient
    rcases hsnd with rfl | rfl
    · refine Plant.clients_ext fun d => (hclient d).trans ?_
      simp [clientOf, Plant.releasedDriven, Plant.client]
    · refine Plant.clients_eq_set fun d => (hclient d).trans ?_
      by_cases hd : d = c
      · subst hd; simp [clientOf]
      · simp [hd, Ne.symm hd]

/-- The reply shows a bystander of the pass as the release left it (R92). -/
theorem Plant.releaseReply_falling {p q : Plant} {i : SlotIx} {charge : Nat}
    (h : (q.allot i).state = .falling .free ∧ (q.allot i).charge = charge) :
    q.releaseReply (p.handleOf i) = .okWith ((p.handleOf i).bytes ++ [6, 0] ++ word charge) := by
  obtain ⟨hst, hch⟩ := h
  change BlockReply.okWith (_ ++ [byte (q.allot i).state.code, (q.allot i).state.outcomeByte]
    ++ word (q.allot i).charge) = _
  rw [hst, hch]
  rfl

/-- A RELEASE on FALLING with outcome FREE changes nothing (R90). -/
theorem Plant.releaseAccepted_falling {p : Plant} {i : SlotIx} (h : (p.allot i).state = .falling .free) (eff : Nat)
    (snd : Sender) : p.releaseAccepted eff snd i = p := by
  have htrig : releaseTrigger p p = false := by cases hs : p.eng.stage <;> simp [releaseTrigger, hs]
  rw [Plant.releaseAccepted, Plant.releaseOne_still _ _ (.inr h)]
  simp only [htrig, Plant.passIf_false]

end Sys2Proof.Machine

open Sys2Proof Sys2Proof.Machine in
/-- Settles O29: the fall of the slot by the fields of a release, the pass by its trigger, and the reply by what the pass
leaves alone. -/
theorem releaseWithOutputStartsAFallToFree : Obligations.ReleaseWithOutputStartsAFallToFree := by
  intro s c i snd hask hsnd a e h charge p
  obtain ⟨hpresent, howner⟩ := hask.sender hsnd
  have ⟨hreset, _, hne, hown⟩ := hask
  have hexec : exec (.release snd h) s = .next (State.answered
      { s with plant := s.plant.releaseAccepted s.lim.effective snd i } .release snd h
      ((s.plant.releaseAccepted s.lim.effective snd i).releaseReply (s.plant.handleOf i))) := by
    change s.request .release snd h release = _
    rw [State.request_present hreset hpresent, release_ok hpresent hne howner]
    rfl
  refine ⟨fun hg hf => ?_, fun hf => ?_⟩
  · have hdriven : a.state.driven = true := AllotState.driven_iff.mpr ⟨hg, hf⟩
    have hp : s.plant.releaseOne (originOf snd i) (clientOf snd).isNone i = p :=
      Plant.releaseOne_eq_releasedDriven hdriven hown hsnd
    have hrec : p.allot i = s.plant.releasedRecord (decide (snd = .supervisor)) a := by
      rw [← hp, Plant.allot_releaseOne, if_pos rfl, originOf_spares hsnd]
    rw [Plant.releasedRecord_driven hdriven] at hrec
    have htrigger : releaseTrigger s.plant p = decide (p.eng.committed < e.committed) := by
      have hstage : p.eng.stage = s.plant.eng.stage := rfl
      cases hs : s.plant.eng.stage <;> simp [releaseTrigger, hstage, hs, e]
    have hacc : s.plant.releaseAccepted s.lim.effective snd i
        = p.passIf s.lim.effective (originOf snd i) (decide (p.eng.committed < e.committed)) := by
      rw [Plant.releaseAccepted, hp, htrigger]
    have hafter := Plant.passIf_allot_bystander (p := p) (j := i) (by rw [hrec]; rfl) s.lim.effective (originOf snd i)
      (decide (p.eng.committed < e.committed))
    rw [hexec, hacc, Plant.releaseReply_falling (charge := charge) (by rw [hafter, hrec]; exact ⟨rfl, rfl⟩),
      Plant.passIf_eq, originOf_eq hsnd]
    simp only [decide_eq_true_eq]
    rfl
  · rw [hexec, Plant.releaseAccepted_falling hf, Plant.releaseReply_falling ⟨hf, rfl⟩]
end

section
/-! RETRY (R123 to R125): what clearing the latches leaves, and the requeueing with its pass. -/

namespace Sys2Proof.Machine

/-- Of two classes one ranks above the other (R41). -/
theorem ranksAbove_total {levels : Vector (Fin 4) 6} {a b : ClassIx} (hne : a ≠ b)
    (h : ranksAbove levels b a = false) : ranksAbove levels a b = true := by
  rw [ranksAbove_false_iff] at h
  rw [ranksAbove_iff]
  exact h.imp_right fun ⟨he, hle⟩ => ⟨he.symm, lt_of_le_of_ne hle hne⟩

/-! ### The places of the wait queue as the statements write them (R46, R47) -/

theorem Plant.queuedAtBack_placeBack {p : Plant} {l : List Handle} (hl : p.ordered l) (c : ClassIx) (h : Handle) :
    p.queuedAtBack c h l (placeBack p c h l) := by
  obtain ⟨pre, post, rfl, hplace, hpre, hhead⟩ := placeBack_split p c h l
  refine ⟨pre, post, rfl, hplace, fun x hx => ?_, fun x hx => ?_⟩
  · rw [Plant.outranks_iff]
    exact Bool.eq_false_iff.mp (hpre x hx)
  · rw [Plant.outranks_iff]
    by_contra hne
    cases post with
    | nil => cases hx
    | cons e r =>
      have hord := (List.pairwise_cons.mp (List.pairwise_append.mp hl).2.1).1
      have he := hhead e rfl
      rcases List.mem_cons.mp hx with rfl | hx
      · exact hne he
      · rw [ranksAbove_false_trans (by simpa using hne) (hord x hx)] at he
        cases he

theorem Plant.queuedAtFront_placeFront {p : Plant} {l : List Handle} (hl : p.ordered l) (c : ClassIx) (h : Handle) :
    p.queuedAtFront c h l (placeFront p c h l) := by
  obtain ⟨pre, post, rfl, hplace, hpre, hhead⟩ := placeFront_split p c h l
  refine ⟨pre, post, rfl, hplace, fun x hx => ?_, fun x hx => ?_⟩
  · obtain ⟨hne, hlow⟩ := hpre x hx
    rw [Plant.outranks_iff]
    exact ranksAbove_total hne hlow
  · have hpost : p.ordered post := (List.pairwise_append.mp hl).2.1
    rw [Plant.outranks_iff, Bool.not_eq_true]
    refine hpost.head_bound (fun e he => ?_) x hx
    rcases hhead e he with he | he
    · rw [he, ranksAbove_false_iff]; exact .inr ⟨rfl, le_rfl⟩
    · exact ranksAbove_asymm he

/-! ### The latches (R124) -/

/-- What clearing the latches of the channels `ns` leaves: each one FAULTED with its input inactive is OFF at 0, and
nothing else moves. -/
structure State.Unlatches (s : State) (ns : List ChannelIx) (q : Plant) : Prop where
  eng : q.eng = s.plant.eng
  clients : q.clients = s.plant.clients
  out : q.out = { s.plant.out with channels := q.out.channels }
  chan : ∀ n, q.chan n =
    if n ∈ ns ∧ (s.plant.chan n).state = .faulted ∧ s.pins.faultLow[n] = false then (s.plant.chan n).cleared
    else s.plant.chan n

theorem State.clearLatch_unlatches (s : State) (n : ChannelIx) :
    ∃ q, s.clearLatch n = s.setPlant q ∧ s.Unlatches [n] q := by
  unfold State.clearLatch
  split
  next h =>
    refine ⟨_, rfl, rfl, rfl, rfl, fun m => ?_⟩
    rw [Plant.chan_setChan]
    by_cases hm : m = n
    · subst hm; simp [h]
    · simp [hm]
  next h =>
    refine ⟨s.plant, rfl, rfl, rfl, rfl, fun m => ?_⟩
    rw [if_neg]
    rintro ⟨hm, hf⟩
    rw [List.mem_singleton.mp hm] at hf
    exact h hf

theorem State.clearLatches_unlatches (ts : List Term) (s : State) :
    ∃ q, s.clearLatches ts = s.setPlant q ∧ s.Unlatches (ts.map Term.channel) q := by
  induction ts generalizing s with
  | nil => exact ⟨s.plant, rfl, rfl, rfl, rfl, fun n => by simp⟩
  | cons t ts ih =>
    obtain ⟨q, hq, hu⟩ := s.clearLatch_unlatches t.channel
    obtain ⟨r, hr, hv⟩ := ih (s.setPlant q)
    refine ⟨r, by rw [State.clearLatches, List.foldl_cons, hq]; exact hr, hv.eng.trans hu.eng,
      hv.clients.trans hu.clients, ?_, fun n => ?_⟩
    · rw [hv.out, State.setPlant_plant, hu.out]
    · have hqn := hu.chan n
      have hrn := hv.chan n
      rw [State.setPlant_plant, State.setPlant_pins] at hrn
      by_cases hf : (s.plant.chan n).state = .faulted ∧ s.pins.faultLow[n] = false
      · by_cases hn : n = t.channel
        · rw [if_pos ⟨List.mem_singleton.mpr hn, hf⟩] at hqn
          rw [if_pos ⟨by simp [hn], hf⟩, hrn, if_neg (by simp [hqn, Channel.cleared]), hqn]
        · rw [if_neg fun hc => hn (List.mem_singleton.mp hc.1)] at hqn
          rw [hrn, hqn]
          simp only [List.map_cons, List.mem_cons, hn, false_or]
      · rw [if_neg fun hc => hf hc.2] at hqn
        rw [hrn, hqn, if_neg fun hc => hf hc.2, if_neg fun hc => hf hc.2]

/-- A channel is still FAULTED where its input is active. -/
theorem State.Unlatches.faulted_iff {s : State} {ns : List ChannelIx} {q : Plant} (h : s.Unlatches ns q) {n : ChannelIx}
    (hn : n ∈ ns) :
    (q.chan n).state = .faulted ↔ (s.plant.chan n).state = .faulted ∧ s.pins.faultLow[n] = true := by
  rw [h.chan]
  by_cases hf : (s.plant.chan n).state = .faulted <;> cases s.pins.faultLow[n] <;>
    simp [hn, hf, Channel.cleared]

theorem Plant.firstFaulted_none {p : Plant} {terms : List Term}
    (h : ∀ x ∈ terms, (p.chan x.channel).state ≠ .faulted) : p.firstFaulted terms = none := by
  unfold Plant.firstFaulted
  rw [List.find?_eq_none.mpr fun x hx => by simpa using h x hx]
  rfl

theorem Plant.firstFaulted_some {p : Plant} {pre post : List Term} {x : Term}
    (hpre : ∀ y ∈ pre, (p.chan y.channel).state ≠ .faulted) (hx : (p.chan x.channel).state = .faulted) :
    p.firstFaulted (pre ++ x :: post) = some x.channel := by
  have hfind : (pre ++ x :: post).find? (fun t => (p.chan t.channel).state = .faulted) = some x :=
    List.find?_eq_some_iff_append.mpr ⟨by simpa using hx, pre, post, rfl, fun y hy => by simpa using hpre y hy⟩
  unfold Plant.firstFaulted
  rw [hfind]
  rfl

/-! ### The requeueing (R124) -/

/-- What a requeued allotment is, and where it stands (R46, R124). -/
theorem Plant.requeued_eng (p : Plant) (o : Origin) (i : SlotIx) :
    let a := p.allot i
    (p.requeued o i).eng = { p.eng with
      allots := p.eng.allots.set i { a with
        terms := a.terms.map fun x => { x with target := 0 }, unsettled := [], state := .waiting, charge := 0
        changed := a.changed || !o.spares i a }
      queue := placeBack p a.cls (p.handleOf i) p.eng.queue
      committed := p.eng.committed - a.charge } := by
  intro a
  let r := (p.setAllot i { a.halted with state := .waiting }).setCharge i 0
  have hr : ∀ j, r.allot j = if j = i then { a.halted with state := .waiting, charge := 0 } else p.allot j := fun j => by
    rw [Plant.allot_setCharge]
    by_cases h : j = i
    · simp [h]
    · simp [h, Plant.allot_setAllot_ne]
  have hcls : ∀ e, r.classOf e = p.classOf e := fun e => by
    unfold Plant.classOf
    rw [hr]
    split
    next h => rw [h]; rfl
    next => rfl
  have hqueue : (p.requeued o i).eng.queue = placeBack p a.cls (p.handleOf i) p.eng.queue := by
    have hhandle : r.handleOf i = p.handleOf i := by simp only [Plant.handleOf, hr, if_true]; rfl
    have hown : (r.allot i).cls = a.cls := by rw [hr, if_pos rfl]; rfl
    unfold Plant.requeued
    rw [Plant.markChanged_queue]
    change placeBack r (r.allot i).cls (r.handleOf i) p.eng.queue = _
    rw [hhandle, hown, placeBack_congr (p := p) (q := r) rfl hcls]
  have hcommitted : (p.requeued o i).eng.committed = p.eng.committed - a.charge := by
    simp [Plant.requeued, a, Allotment.halted]
  refine (Engine.eq_of_levels (e := p.eng) (by simp [Plant.requeued])).trans ?_
  rw [Plant.allots_eq_set (p.allot_requeued o i), hqueue, hcommitted]
  simp only [Plant.requeued, Plant.markChanged_binding, Plant.markChanged_grants, Plant.markChanged_stage]
  cases o <;> rfl

/-- A pass moves no generation, so handles stay current (R4). -/
theorem Plant.PassChain.generation {eff : Nat} {o : Origin} {p q : Plant} (h : Plant.PassChain eff o p q) (j : SlotIx) :
    (q.allot j).generation = (p.allot j).generation := by
  induction h with
  | refl => rfl
  | tail _ hact ih =>
    rw [← ih]
    cases hact with
    | topUp i => rw [Plant.allot_topUp]; split <;> simp_all [Plant.inTransition]
    | grant i => rw [Plant.allot_grant, Plant.allot_topUp]; split <;> simp_all [Plant.inTransition]
    | reduce i => exact Plant.generation_reduceVictim _ _ _ _
    | shed i => exact Plant.generation_shedVictim _ _ _ _
    | stage i => rw [Plant.allot_stageEntry]; split <;> simp_all [Allotment.halted]

/-! ### RETRY (R123) -/

section Retry
variable {s : State} {snd : Sender} {i : SlotIx} {q : Plant}

theorem retry_refused {payload : List Byte} {st : Status} (hrun : s.ctl.part = .run)
    (h : s.notActive snd = some st ∨ (s.notActive snd = none ∧ payload.length ≠ 2 ∧ st = .badLength)) :
    retry snd payload s = s.refuse st := by
  rcases h with h | ⟨h, hl, rfl⟩
  · simp [retry, hrun, h]
  · simp [retry, hrun, h, hl]

/-- The tests of a RETRY before its handle's: RUN, and a sender who is present and may ask for the allotment (R123). -/
structure State.RetryReaches (s : State) (snd : Sender) (i : SlotIx) : Prop where
  run : s.ctl.part = .run
  present : s.present snd
  taken : (s.plant.allot i).state ≠ .free
  owner : snd = .supervisor ∨ (s.plant.allot i).owner = clientOf snd

theorem State.RetryReaches.handle (h : s.RetryReaches snd i) :
    s.handleTest snd (s.plant.handleOf i).bytes = .ok i := by
  have ht := State.handleTest_ok [] h.taken h.owner
  rwa [List.append_nil] at ht

theorem retry_wrongState (h : s.RetryReaches snd i) (hs : (s.plant.allot i).state ≠ .tripped) :
    retry snd (s.plant.handleOf i).bytes s = s.refuse .wrongState := by
  have hl : (s.plant.handleOf i).bytes.length = 2 := rfl
  simp [retry, h.run, State.notActive_present h.present, hl, h.handle, hs]

/-- A RETRY that leaves a channel FAULTED (R125). -/
theorem retry_stuck (h : s.RetryReaches snd i) (hs : (s.plant.allot i).state = .tripped)
    (hq : s.clearLatches (s.plant.allot i).terms = s.setPlant q) {n : ChannelIx}
    (hn : q.firstFaulted (s.plant.allot i).terms = some n) :
    retry snd (s.plant.handleOf i).bytes s = (s.setPlant q, ⟨.channelFault, [channelByte n]⟩) := by
  have hl : (s.plant.handleOf i).bytes.length = 2 := rfl
  simp [retry, h.run, State.notActive_present h.present, hl, h.handle, hs, hq, hn]

/-- A RETRY that leaves no channel FAULTED (R124). -/
theorem retry_cleared (h : s.RetryReaches snd i) (hs : (s.plant.allot i).state = .tripped)
    (hq : s.clearLatches (s.plant.allot i).terms = s.setPlant q)
    (hn : q.firstFaulted (s.plant.allot i).terms = none) :
    let r := q.retryAccepted s.lim.effective (originOf snd i) i
    retry snd (s.plant.handleOf i).bytes s =
      (s.setPlant r, .okWith ((r.handleOf i).bytes ++ [byte (r.allot i).state.code])) := by
  have hl : (s.plant.handleOf i).bytes.length = 2 := rfl
  simp only [retry, h.run, State.notActive_present h.present, hl, h.handle, hs, hq, hn, ne_eq, not_true_eq_false,
    if_false, State.setPlant_plant, State.setPlant_lim]
  rfl

/-- The pass of a RETRY, over the plant with the allotment requeued (R52, R124); handles stay current. -/
theorem Plant.retryAccepted_eq (p : Plant) (eff : Nat) (o : Origin) (i : SlotIx) :
    p.retryAccepted eff o i =
        (if p.eng.stage = none then passWalk eff o (p.requeued o i).eng.queue (p.requeued o i) else p.requeued o i)
      ∧ (p.retryAccepted eff o i).handleOf i = p.handleOf i := by
  have hpass : p.retryAccepted eff o i = (p.requeued o i).passIf eff o true := rfl
  have hstage : (p.requeued o i).eng.stage = p.eng.stage := by rw [Plant.requeued_eng]
  refine ⟨by rw [hpass, Plant.passIf_eq, hstage]; simp, ?_⟩
  rw [hpass, Plant.handleOf, ((p.requeued o i).passIf_chain eff o true).generation, Plant.allot_requeued, if_pos rfl]
  rfl

end Retry

end Sys2Proof.Machine

open Sys2Proof Sys2Proof.Machine in
/-- Settles O30: the refusals in order; then the plant after the latches are cleared, requeued where no latched channel has
an active input. -/
theorem retryClearsLatchesAndRequeues : Obligations.RetryClearsLatchesAndRequeues := by
  intro s snd hreset hrun refused
  have hrefused {q : List Byte} {st : Status} (hk : ∀ c, snd = .client c → (s.plant.client c).state ≠ .unset)
      (h : s.notActive snd = some st ∨ (s.notActive snd = none ∧ q.length ≠ 2 ∧ st = .badLength)) : refused q st :=
    State.request_refused hreset hk (retry_refused hrun h)
  refine ⟨?idle, ?lapsed, ?length, ?handle⟩
  case idle =>
    rintro c q rfl hc
    exact hrefused (fun d hd => by cases hd; simp [hc]) (.inl (State.notActive_idle hc))
  case lapsed =>
    rintro c q rfl hc
    exact hrefused (fun d hd => by cases hd; simp [hc]) (.inl (State.notActive_lapsed hc))
  case length =>
    intro q hp hl
    exact hrefused (fun c hc => Client.active_ne_unset (hp c hc)) (.inr ⟨State.notActive_present hp, hl, rfl⟩)
  intro c i hask hsnd a e h stuck
  obtain ⟨hp, howner⟩ := hask.sender hsnd
  have ⟨_, _, htaken, _⟩ := hask
  have hreach : s.RetryReaches snd i := ⟨hrun, hp, htaken, howner⟩
  have hexec {x : State × BlockReply} (hx : retry snd h s = x) :
      exec (.retry snd h) s = .next (x.1.answered .retry snd h x.2) := by
    rw [← hx]
    exact State.request_present hreset hp .retry h retry
  refine ⟨fun hs => hexec (retry_wrongState hreach hs), fun hs => ?_⟩
  obtain ⟨q, hq, hu⟩ := s.clearLatches_unlatches a.terms
  have hstuck {x : Term} (hx : x ∈ a.terms) : (q.chan x.channel).state = .faulted ↔ stuck x.channel :=
    hu.faulted_iff (List.mem_map_of_mem hx)
  have hqi : ∀ j, q.allot j = s.plant.allot j := fun j => by simp only [Plant.allot, hu.eng]
  by_cases hfree : ∀ x ∈ a.terms, ¬stuck x.channel
  · have heng := q.requeued_eng (originOf snd i) i
    have hplace (l : List Handle) : placeBack q a.cls (q.handleOf i) l = placeBack s.plant a.cls (s.plant.handleOf i) l := by
      rw [placeBack_congr (p := s.plant) (by rw [hu.eng]) fun x => by simp only [Plant.classOf, hqi]]
      simp only [Plant.handleOf, hqi]
    simp only [hqi, originOf_spares hsnd, hu.eng] at heng
    rw [hplace] at heng
    refine ⟨q.requeued (originOf snd i) i, ?_, ?_, fun n => ?_, fun _ => ⟨heng, fun ho => ?_, ?_⟩, ?_⟩
    · simpa [Plant.requeued] using hu.clients
    · simpa [Plant.requeued] using hu.out
    · exact (congrArg (·.channels[n]) (show (q.requeued (originOf snd i) i).out = q.out by simp [Plant.requeued])).trans
        (hu.chan n)
    · rw [heng]
      exact Plant.queuedAtBack_placeBack ho a.cls (s.plant.handleOf i)
    · have hnone := Plant.firstFaulted_none (p := q) fun x hx hf => hfree x hx ((hstuck hx).mp hf)
      obtain ⟨hr, hhandle⟩ := q.retryAccepted_eq s.lim.effective (originOf snd i) i
      have hcleared := hexec (retry_cleared hreach hs hq hnone)
      have hsame : q.handleOf i = s.plant.handleOf i := by simp only [Plant.handleOf, hqi]
      simp only [hhandle, hsame] at hcleared
      rw [hr, hu.eng] at hcleared
      rw [← originOf_eq hsnd]
      exact hcleared
    · rintro pre x post hterms - hx
      exact absurd hx (hfree x (by simp [hterms]))
  · refine ⟨q, hu.clients, hu.out, fun n => hu.chan n, fun h => absurd h hfree, fun pre x post hterms hpre hx => ?_⟩
    refine ⟨hu.eng, hexec (retry_stuck hreach hs hq ?_)⟩
    change q.firstFaulted a.terms = _
    have hmem {y : Term} (hy : y ∈ pre) : y ∈ a.terms := by rw [hterms]; exact List.mem_append_left _ hy
    have hxm : x ∈ a.terms := by rw [hterms]; simp
    have hsome := Plant.firstFaulted_some (p := q) (pre := pre) (post := post)
      (fun y hy hf => hpre y hy ((hstuck (hmem hy)).mp hf)) ((hstuck hxm).mpr hx)
    rwa [← hterms] at hsome
end

section
/-! SET_CLASSES (R41 to R43): the levels read from the payload, and the queue regrouped under them. -/

namespace Sys2Proof.Machine

/-! ### The payload (R42) -/

/-- The level of each class is its byte, where the bytes are 0 to 3. -/
theorem levelsOf_val {q : List Byte} (hl : q.length = 6) (hb : ∀ b ∈ q, b.toNat ≤ 3) (c : ClassIx) :
    (levelsOf q)[c].val = byteAt q c.val := by
  have hread (k : Nat) (hk : k < 6) : byteAt q k ≤ 3 := by
    have hkq : k < q.length := by omega
    rw [byteAt, List.getD_eq_getElem _ _ hkq]
    exact hb _ (List.getElem_mem hkq)
  have hmod (k : Nat) (hk : k < 6) : (Fin.ofNat 4 (byteAt q k)).val = byteAt q k :=
    Nat.mod_eq_of_lt (by have := hread k hk; omega)
  obtain ⟨k, hk⟩ := c
  interval_cases k <;> exact hmod _ (by decide)

/-- The levels written back are the bytes they were read from (R43). -/
theorem levelsOf_bytes {q : List Byte} (hl : q.length = 6) (hb : ∀ b ∈ q, b.toNat ≤ 3) :
    (levelsOf q).toList.map (fun l => byte l.val) = q := by
  refine List.ext_getElem (by simp [hl]) fun k hk hkq => ?_
  have hk6 : k < 6 := by omega
  have hval := levelsOf_val hl hb ⟨k, hk6⟩
  rw [byteAt, List.getD_eq_getElem _ _ hkq] at hval
  simp only [List.getElem_map, Vector.getElem_toList]
  exact (congrArg byte hval).trans (byte_toNat _)

/-! ### The regrouped queue (R43) -/

/-- A list put together from the parts of another by the values of a function keeps each part. -/
theorem filter_flatMap_filter {α : Type} {n : Nat} {cs : List (Fin n)} (hn : cs.Nodup) {c : Fin n} (hc : c ∈ cs)
    (f : α → Fin n) (l : List α) :
    (cs.flatMap fun k => l.filter fun a => f a = k).filter (fun a => f a = c) = l.filter fun a => f a = c := by
  have hpart (k : Fin n) : (l.filter fun a => f a = k).filter (fun a => f a = c)
      = if k = c then l.filter (fun a => f a = c) else [] := by
    rw [List.filter_filter]
    split
    next hk => subst hk; simp
    next hk =>
      refine List.filter_eq_nil_iff.mpr fun a _ h => ?_
      simp only [Bool.and_eq_true, decide_eq_true_eq] at h
      exact hk (h.2.symm.trans h.1)
  obtain ⟨pre, post, rfl⟩ := List.append_of_mem hc
  rw [List.nodup_append, List.nodup_cons] at hn
  obtain ⟨-, ⟨hpost, -⟩, hpre⟩ := hn
  have hnone {ks : List (Fin n)} (h : ∀ k ∈ ks, k ≠ c) :
      (ks.flatMap fun k => l.filter fun a => f a = k).filter (fun a => f a = c) = [] := by
    rw [List.filter_flatMap, List.flatMap_eq_nil_iff]
    exact fun k hk => by rw [hpart, if_neg (h k hk)]
  rw [List.flatMap_append, List.flatMap_cons, List.filter_append, List.filter_append, hpart, if_pos rfl,
    hnone fun k hk => hpre k hk c (by simp), hnone fun k hk he => hpost (he ▸ hk)]
  simp

/-- Regrouping under other levels orders any queue (R43). -/
theorem Plant.relevelled_ordered (p : Plant) (levels : Vector (Fin 4) 6) : (p.relevelled levels).queueOrdered := by
  change List.Pairwise _ ((classesByRank levels).flatMap fun c => p.eng.queue.filter fun h => p.classOf h = c)
  have hclass {c : ClassIx} {x : Handle} (hx : x ∈ p.eng.queue.filter fun h => p.classOf h = c) : p.classOf x = c := by
    simpa using (List.mem_filter.mp hx).2
  rw [List.pairwise_flatMap]
  constructor
  · intro c _
    refine List.pairwise_of_forall_mem_list fun x hx y hy => ?_
    change ranksAbove levels (p.classOf y) (p.classOf x) = false
    rw [hclass hx, hclass hy, ranksAbove_false_iff]
    exact .inr ⟨rfl, le_rfl⟩
  · refine (classesByRank_pairwise levels).imp fun hcd x hx y hy => ?_
    change ranksAbove levels (p.classOf y) (p.classOf x) = false
    rw [hclass hx, hclass hy]
    exact ranksAbove_asymm hcd

/-- What SET_CLASSES does: levels that all stay move nothing; else the queue is regrouped and a pass follows (R43). -/
theorem Plant.setLevels_eq (p : Plant) (eff : Nat) (levels : Vector (Fin 4) 6) :
    p.setLevels eff levels =
      if levels = p.eng.levels then p
      else if p.eng.stage = none then passWalk eff .other (p.relevelled levels).eng.queue (p.relevelled levels)
      else p.relevelled levels := by
  unfold Plant.setLevels
  split
  next => rfl
  next =>
    change (p.relevelled levels).passIf eff .other true = _
    rw [Plant.passIf_eq]
    simp [Plant.relevelled]

end Sys2Proof.Machine

open Sys2Proof Sys2Proof.Machine in
/-- Settles O32: the refusals in order; then the regrouped plant, or the plant as it was where no level changes. -/
theorem setClassesRegroupsTheQueue : Obligations.SetClassesRegroupsTheQueue := by
  intro s q hreset e refused
  have hrefused {snd : Sender} {st : Status} (hk : ∀ c, snd = .client c → (s.plant.client c).state ≠ .unset)
      (h : setClasses snd q s = s.refuse st) : refused snd st := State.request_refused hreset hk h
  refine ⟨fun c hc => hrefused (fun d hd => by cases hd; exact hc) (by simp [setClasses]),
    fun hl => hrefused (by simp) (by simp [setClasses, hl]),
    fun hl ⟨b, hb, h3⟩ => hrefused (by simp) ?_, fun hl hb => ?_⟩
  · have hany : (q.any fun b => decide (3 < b.toNat)) = true := List.any_eq_true.mpr ⟨b, hb, by simpa using h3⟩
    simp [setClasses, hl, hany]
  have hany : (q.any fun b => decide (3 < b.toNat)) = false :=
    List.any_eq_false.mpr fun b hbq => by simpa using hb b hbq
  have hexec : exec (.setClasses .supervisor q) s = .next (State.answered
      { s with plant := s.plant.setLevels s.lim.effective (levelsOf q) } .setClasses .supervisor q
      (.okWith (classesReply (levelsOf q)))) := by
    change s.request .setClasses .supervisor q setClasses = _
    rw [State.request_supervisor hreset]
    simp only [setClasses, hl, hany, ne_eq, not_true_eq_false, if_false, Bool.false_eq_true]
    rfl
  have hreply : classesReply (levelsOf q) = q ++ (classesByRank (levelsOf q)).map fun c => byte c.val := by
    rw [classesReply, levelsOf_bytes hl hb]
  have hlen : (classesByRank (levelsOf q)).length = 6 := (classesByRank_perm _).length_eq
  have hranked {p : Plant} (hp : p.eng.levels = levelsOf q) : (classesByRank (levelsOf q)).Pairwise p.outranks :=
    (classesByRank_pairwise _).imp fun h => Plant.outranks_iff.mpr (by rwa [hp])
  rw [hreply, Plant.setLevels_eq] at hexec
  by_cases hsame : levelsOf q = e.levels
  · refine ⟨s.plant, classesByRank (levelsOf q), ?_, hlen, hranked hsame.symm, rfl, fun c => ?_, fun _ => rfl,
      fun h => absurd rfl h, fun c => rfl⟩
    · rw [hexec, if_pos hsame, if_neg fun h => h.1 rfl]
    · rw [← levelsOf_val hl hb c, hsame]
  · refine ⟨s.plant.relevelled (levelsOf q), classesByRank (levelsOf q), ?_, hlen, hranked rfl, rfl,
      levelsOf_val hl hb, fun h => absurd h hsame, fun _ => s.plant.relevelled_ordered _, fun c => ?_⟩
    · rw [hexec, if_neg hsame]
      have hlev : (s.plant.relevelled (levelsOf q)).eng.levels ≠ e.levels := hsame
      simp only [hlev, ne_eq, not_false_eq_true, true_and]
      rfl
    · exact filter_flatMap_filter ((classesByRank_perm _).nodup_iff.mpr (List.nodup_finRange 6))
        ((classesByRank_perm _).mem_iff.mpr (List.mem_finRange c)) s.plant.classOf s.plant.eng.queue
end

section
/-! A client release (R94): what the releases of several allotments do together, and the pass that follows them. -/

namespace Sys2Proof.Machine

/-- A transition command writes neither duties applied now nor ratings (R105). -/
theorem OutputStage.command_applied (o : OutputStage) (terms : List Term) (d : Term → Nat) (id : BitVec 16)
    (n : ChannelIx) :
    (o.command terms d id).channels[n].applied = o.channels[n].applied
      ∧ (o.command terms d id).channels[n].rating = o.channels[n].rating := by
  unfold OutputStage.command
  induction terms generalizing o with
  | nil => exact ⟨rfl, rfl⟩
  | cons t r ih =>
    obtain ⟨ha, hr⟩ := ih (o.takeCommand t.channel (d t) id)
    rw [List.foldl_cons, ha, hr]
    by_cases hn : n = t.channel
    · subst hn
      by_cases hf : o.channels[t.channel].state = .faulted
      · have hnone : o.takeCommand t.channel (d t) id = o := if_pos hf
        rw [hnone]
        exact ⟨rfl, rfl⟩
      · obtain ⟨h1, -, h3, -⟩ := o.takeCommand_self (d t) id hf
        exact ⟨h1, h3⟩
    · rw [o.channels_takeCommand_ne (d t) id hn]
      exact ⟨rfl, rfl⟩

/-- The record of a release reads the duties applied now and the ratings, and nothing else of the plant (R89). -/
theorem Plant.releasedRecord_congr {p q : Plant}
    (h : ∀ n, (q.chan n).applied = (p.chan n).applied ∧ (q.chan n).rating = (p.chan n).rating) (flagged : Bool)
    (a : Allotment) : q.releasedRecord flagged a = p.releasedRecord flagged a := by
  have hcost : (a.terms.map fun t => costAt (q.chan t.channel).rating (q.chan t.channel).applied)
      = a.terms.map fun t => costAt (p.chan t.channel).rating (p.chan t.channel).applied :=
    List.map_congr_left fun t _ => by rw [(h t.channel).1, (h t.channel).2]
  unfold Plant.releasedRecord
  rw [hcost]

theorem Plant.chan_releaseOne (p : Plant) (o : Origin) (retires : Bool) (i : SlotIx) (n : ChannelIx) :
    ((p.releaseOne o retires i).chan n).applied = (p.chan n).applied
      ∧ ((p.releaseOne o retires i).chan n).rating = (p.chan n).rating := by
  unfold Plant.chan
  rw [Plant.out_releaseOne]
  split
  · exact OutputStage.command_applied _ _ _ _ n
  · exact ⟨rfl, rfl⟩

/-! ### Several releases -/

/-- What the freeing of the slots among `l` that hold no output takes off the claimed total (R87, R136). -/
def Plant.freedCost (p : Plant) (l : List SlotIx) : Nat :=
  ((l.filter fun i => (p.allot i).state.idle).map fun i => (p.allot i).requestCost).sum

/-- How many of the slots `l` a release changes (R94). -/
def Plant.releasedAmong (p : Plant) (l : List SlotIx) : Nat :=
  (l.filter fun i => (p.allot i).state.releasable).length

/-- The retired count `k` after `n` releases, each of which retires when they are those of a lapse (R140). -/
def retiredAfter (lapse : Bool) (k n : Nat) : Nat := if lapse = true ∧ 0 < n then min 255 (k + n) else k

theorem Plant.freedCost_append (p : Plant) (l : List SlotIx) (v : SlotIx) :
    p.freedCost (l ++ [v]) = p.freedCost l + if (p.allot v).state.idle = true then (p.allot v).requestCost else 0 := by
  unfold Plant.freedCost
  by_cases hi : (p.allot v).state.idle = true <;> simp [hi]

theorem Plant.releasedAmong_append (p : Plant) (l : List SlotIx) (v : SlotIx) :
    p.releasedAmong (l ++ [v]) = p.releasedAmong l + if (p.allot v).state.releasable = true then 1 else 0 := by
  unfold Plant.releasedAmong
  by_cases hr : (p.allot v).state.releasable = true <;> simp [hr]

theorem retiredAfter_succ (k n : Nat) : min 255 (retiredAfter true k n + 1) = retiredAfter true k (n + 1) := by
  unfold retiredAfter
  by_cases hn : 0 < n
  · simp only [hn, and_self, if_true, Nat.succ_pos]
    omega
  · have h0 : n = 0 := by omega
    simp [h0]

/-- What the releases of the allotments in the slots `l` of client `c` leave of the plant `p` but for the committed charge;
`lapse` holds for the releases of a lapse (R16, R94). -/
structure Plant.ReleasesAll (p q : Plant) (c : ClientIx) (lapse : Bool) (l : List SlotIx) : Prop where
  allots : ∀ j, q.allot j = if j ∈ l then p.releasedRecord lapse (p.allot j) else p.allot j
  binding : ∀ n : ChannelIx, q.eng.binding[n] =
    if ∃ i ∈ l, (p.allot i).state.idle = true ∧ n ∈ (p.allot i).terms.map Term.channel then none else p.eng.binding[n]
  queue : q.eng.queue = p.eng.queue.filter fun h => ¬(h.slot ∈ l ∧ (p.allot h.slot).state.queued = true)
  grants : q.eng.grants = p.eng.grants
  levels : q.eng.levels = p.eng.levels
  stage : q.eng.stage = if ∃ i ∈ l, (p.allot i).state = .staged then none else p.eng.stage
  chan : ∀ n, (q.chan n).applied = (p.chan n).applied ∧ (q.chan n).rating = (p.chan n).rating
  out : q.out = (l.filter fun i => (p.allot i).state.driven).foldl
    (fun o i => o.command (p.allot i).terms (fun _ => 0) ((p.allot i).commandId + 1)) p.out
  client : q.client c = { p.client c with
    claimed := (p.client c).claimed - p.freedCost l
    retired := retiredAfter lapse (p.client c).retired (p.releasedAmong l) }
  others : ∀ d, d ≠ c → q.client d = p.client d

/-- Releases of distinct slots of one client find each record as it was before the first (R94). -/
theorem Plant.releasesAll {p : Plant} {c : ClientIx} {lapse : Bool} {o : Origin} (l : List SlotIx) (hn : l.Nodup)
    (howner : ∀ i ∈ l, (p.allot i).owner = some c) (hflag : ∀ i ∈ l, (!o.spares i (p.allot i)) = lapse) :
    p.ReleasesAll (l.foldl (fun q i => q.releaseOne o lapse i) p) c lapse l := by
  induction l using List.reverseRecOn with
  | nil =>
    exact ⟨by simp, by simp, by simp, rfl, rfl, by simp, fun _ => ⟨rfl, rfl⟩, rfl,
      by simp [Plant.freedCost, Plant.releasedAmong, retiredAfter], fun _ _ => rfl⟩
  | append_singleton l v ih =>
    rw [List.nodup_append] at hn
    obtain ⟨hl, -, hne⟩ := hn
    have hv : v ∉ l := fun h => hne _ h _ (by simp) rfl
    have h := ih hl (fun i hi => howner i (List.mem_append_left _ hi)) fun i hi => hflag i (List.mem_append_left _ hi)
    have hown := howner v (by simp)
    have hfl := hflag v (by simp)
    rw [List.foldl_append]
    simp only [List.foldl_cons, List.foldl_nil]
    generalize l.foldl (fun q i => q.releaseOne o lapse i) p = r at h
    have hr : r.allot v = p.allot v := by rw [h.allots, if_neg hv]
    obtain ⟨hqueue, hgrants, hstage, hlevels⟩ := r.releaseOne_lists o lapse v
    have hout := r.out_releaseOne o lapse v
    rw [hr] at hqueue hstage hout
    refine ⟨fun j => ?allots, fun n => ?binding, ?queue, hgrants.trans h.grants, hlevels.trans h.levels, ?stage,
      fun n => ?chan, ?out, ?client, fun d hd => ?others⟩
    case allots =>
      rw [Plant.allot_releaseOne, hr, hfl, Plant.releasedRecord_congr h.chan, h.allots]
      by_cases hj : j = v
      · subst hj; simp
      · simp [hj]
    case binding =>
      rw [Plant.binding_releaseOne, hr, h.binding]
      simp only [List.mem_append, List.mem_singleton, or_and_right, exists_or, exists_eq_left]
      by_cases hb : (p.allot v).state.idle = true ∧ n ∈ (p.allot v).terms.map Term.channel
      · simp only [hb, and_self, or_true, if_true]
      · simp only [hb, or_false, if_false]
    case queue =>
      rw [hqueue, h.queue]
      by_cases hq : (p.allot v).state.queued = true
      · rw [if_pos hq, List.filter_filter]
        refine List.filter_congr fun x _ => ?_
        by_cases hx : x.slot = v <;> simp [hx, hq]
      · rw [if_neg hq]
        refine List.filter_congr fun x _ => ?_
        by_cases hx : x.slot = v <;> simp [hx, hq, hv]
    case stage =>
      rw [hstage, h.stage]
      by_cases hs : (p.allot v).state = .staged <;> simp [hs, or_and_right, exists_or]
    case chan =>
      obtain ⟨h1, h2⟩ := r.chan_releaseOne o lapse v n
      exact ⟨h1.trans (h.chan n).1, h2.trans (h.chan n).2⟩
    case out =>
      rw [hout, h.out, List.filter_append, List.foldl_append]
      by_cases hd : (p.allot v).state.driven = true <;> simp [hd]
    case client =>
      rw [Plant.client_releaseOne, hr, hown, h.client, Plant.freedCost_append, Plant.releasedAmong_append]
      have hretired : (if lapse = true ∧ (p.allot v).state.releasable = true ∧ some c = some c then
            min 255 (retiredAfter lapse (p.client c).retired (p.releasedAmong l) + 1)
            else retiredAfter lapse (p.client c).retired (p.releasedAmong l))
          = retiredAfter lapse (p.client c).retired
              (p.releasedAmong l + if (p.allot v).state.releasable = true then 1 else 0) := by
        by_cases hrel : (p.allot v).state.releasable = true
        · cases lapse with
          | true => simpa [hrel] using retiredAfter_succ _ _
          | false => simp [retiredAfter]
        · simp [hrel]
      rw [hretired]
      simp only [and_true, Nat.sub_sub]
    case others =>
      rw [Plant.client_releaseOne, hr, hown, h.others d hd]
      simp [Ne.symm hd]

/-! ### The release of a client -/

/-- A release of an allotment that is not FREE changes it unless it is FALLING/FREE (R94). -/
theorem AllotState.releasable_eq {st : AllotState} (h : st ≠ .free) : st.releasable = decide (st ≠ .falling .free) := by
  have hb : (st == .free) = false := beq_eq_false_iff_ne.mpr h
  rw [AllotState.releasable, hb, Bool.eq_iff_iff]
  simp

/-- It starts a fall where there is an output and no fall to FREE yet (R88 to R90). -/
theorem AllotState.driven_eq {st : AllotState} (h : st ≠ .free) :
    st.driven = (decide (st.idle = false) && decide (st ≠ .falling .free)) := by
  rcases st.release_cases with hs | hs | hs
  · simp [hs.resolve_left h, AllotState.driven]
  · have hd : st.driven = false := by
      by_contra hd
      simp [AllotState.not_idle_of_driven (by simpa using hd)] at hs
    simp [hd, hs]
  · simp [hs, AllotState.not_idle_of_driven hs, (AllotState.driven_iff.mp hs).2]

section Client
variable {p : Plant} {c : ClientIx} {lapse : Bool} {o : Origin}

theorem Plant.releaseClient_moves : p.Moves (p.releaseClient o lapse c) := by
  have hrel (l : List SlotIx) : ∀ q : Plant, q.Moves (l.foldl (fun q i => q.releaseOne o lapse i) q) := by
    induction l with
    | nil => exact fun q => .refl
    | cons i l ih => exact fun q => (q.releaseOne_moves o lapse i).trans (ih _)
  exact hrel _ p

/-- The origin of a client release flags each allotment of the client by a lapse, and none by its LEAVE or JOIN (R14). -/
def releaseOrigin (c : ClientIx) (lapse : Bool) : Origin := if lapse then .other else .ownerAll c

theorem releaseOrigin_flags {i : SlotIx} {a : Allotment} (ha : a.owner = some c) (lapse : Bool) :
    (!(releaseOrigin c lapse).spares i a) = lapse := by
  cases lapse <;> simp [releaseOrigin, Origin.spares, ha]

theorem Plant.releaseClient_releases (p : Plant) (c : ClientIx) (lapse : Bool) :
    p.ReleasesAll (p.releaseClient (releaseOrigin c lapse) lapse c) c lapse (p.ownedBy c) :=
  Plant.releasesAll _ ((List.nodup_finRange 32).filter _) (fun _ hi => (Plant.mem_ownedBy.mp hi).2)
    fun _ hi => releaseOrigin_flags (Plant.mem_ownedBy.mp hi).2 lapse

/-- A client release is that of R94. -/
theorem Plant.releaseClient_released (ha : p.accountsAgree) :
    p.clientReleased c lapse (p.releaseClient (releaseOrigin c lapse) lapse c) := by
  have h := p.releaseClient_releases c lapse
  have hsum := (Plant.releaseClient_moves (o := releaseOrigin c lapse) (c := c) (lapse := lapse)).accountsAgree ha
  generalize p.releaseClient (releaseOrigin c lapse) lapse c = q at h hsum
  have htaken {i : SlotIx} (hi : i ∈ p.ownedBy c) : (p.allot i).state ≠ .free := (Plant.mem_ownedBy.mp hi).1
  have hrel : (p.ownedBy c).filter (fun i => (p.allot i).state.releasable)
      = (p.ownedBy c).filter fun i => (p.allot i).state ≠ .falling .free :=
    List.filter_congr fun i hi => AllotState.releasable_eq (htaken hi)
  have hdriven : (p.ownedBy c).filter (fun i => (p.allot i).state.driven)
      = ((p.ownedBy c).filter fun i => (p.allot i).state ≠ .falling .free).filter fun i =>
          (p.allot i).state.idle = false := by
    rw [List.filter_filter]
    exact List.filter_congr fun i hi => AllotState.driven_eq (htaken hi)
  refine ⟨h.allots, fun n => (h.binding n).trans (if_congr ?binding rfl rfl), h.queue.trans ?queue, h.grants, h.levels,
    hsum.2, h.stage, by rw [h.out, hdriven]; rfl, Plant.clients_eq_set fun d => ?clients⟩
  case binding =>
    change _ ↔ ∃ i ∈ (p.ownedBy c).filter (fun i => (p.allot i).state.idle), _
    simp only [List.mem_filter, and_assoc]
  case queue =>
    refine List.filter_congr fun x _ => ?_
    change _ = decide (x.slot ∉ (p.ownedBy c).filter fun i => (p.allot i).state.queued)
    simp only [List.mem_filter]
  case clients =>
    split
    next hd =>
      rw [hd, h.client]
      simp only [Plant.freedCost, Plant.releasedAmong, retiredAfter, hrel, List.length_pos_iff]
      rfl
    next hd => exact h.others d hd

/-- The pass of a client release, where the committed charge fell or the stage emptied and the stage is empty (R52). -/
theorem Plant.clientRelease_eq (p : Plant) (eff : Nat) (c : ClientIx) (lapse : Bool) :
    let q := p.releaseClient (releaseOrigin c lapse) lapse c
    p.clientRelease eff (releaseOrigin c lapse) lapse c =
      if q.eng.stage = none ∧ (q.eng.committed < p.eng.committed ∨ p.eng.stage.isSome = true) then
        passWalk eff (releaseOrigin c lapse) q.eng.queue q
      else q := by
  intro q
  change q.passIf eff _ (releaseTrigger p q) = _
  rw [Plant.passIf_eq]
  refine if_congr (and_congr_right fun hs => ?_) rfl rfl
  simp [releaseTrigger, hs]

/-- The pass of a client release reports nothing to the client table. -/
theorem Plant.clientRelease_clients (p : Plant) (eff : Nat) (o : Origin) (lapse : Bool) (c : ClientIx) :
    (p.clientRelease eff o lapse c).clients = (p.releaseClient o lapse c).clients :=
  ((p.releaseClient o lapse c).passIf_chain eff o _).frame.2

theorem Plant.clientRelease_client (p : Plant) (eff : Nat) (o : Origin) (lapse : Bool) (c : ClientIx) :
    (p.clientRelease eff o lapse c).client c = (p.releaseClient o lapse c).client c := by
  rw [Plant.client, clientRelease_clients]
  rfl

/-- What JOIN, LEAVE and a lapse then do to the client's record leaves the pass as it was. -/
theorem Plant.setClient_clientRelease (p : Plant) (eff : Nat) (c : ClientIx) (lapse : Bool) (f : Client → Client) :
    let q := p.releaseClient (releaseOrigin c lapse) lapse c
    let r := p.clientRelease eff (releaseOrigin c lapse) lapse c
    r.setClient c (f (r.client c)) =
      { (if q.eng.stage = none ∧ (q.eng.committed < p.eng.committed ∨ p.eng.stage.isSome = true) then
          passWalk eff (releaseOrigin c lapse) q.eng.queue q else q) with
        clients := q.clients.set c (f (q.client c)) } := by
  intro q r
  have hclient : r.client c = q.client c := p.clientRelease_client eff _ lapse c
  have hclients : r.clients = q.clients := p.clientRelease_clients eff _ lapse c
  rw [hclient, ← p.clientRelease_eq eff c lapse, ← hclients]
  rfl

/-- How many allotments a client release changes, as LEAVE and JOIN report it (R94, R134, R135). -/
theorem Plant.releasedCount_eq (p : Plant) (c : ClientIx) :
    p.releasedCount c = ((List.finRange 32).filter fun i => (p.allot i).state ≠ .free ∧ (p.allot i).owner = some c
      ∧ (p.allot i).state ≠ .falling .free).length := by
  unfold Plant.releasedCount Plant.ownedBy
  rw [List.filter_filter]
  refine congrArg List.length (List.filter_congr fun i _ => ?_)
  by_cases hf : (p.allot i).state = .free
  · simp [hf]
  · rw [AllotState.releasable_eq hf]
    simp [hf, Bool.and_comm]

theorem Plant.releasedCount_none (h : p.ownedBy c = []) : p.releasedCount c = 0 := by
  simp [Plant.releasedCount, h]

/-- Only a lapse retires, so a LEAVE or JOIN leaves all of its client's record but the claimed total (R134, R140). -/
theorem Plant.releaseClient_client (p : Plant) (c : ClientIx) :
    let q := p.releaseClient (releaseOrigin c false) false c
    q.client c = { p.client c with claimed := (q.client c).claimed } := by
  intro q
  rw [(p.releaseClient_releases c false).client]
  simp [retiredAfter]

theorem Plant.setClient_setClient (p : Plant) (c : ClientIx) (x y : Client) :
    (p.setClient c x).setClient c y = p.setClient c y := by
  simp [Plant.setClient]

end Client

end Sys2Proof.Machine

open Sys2Proof Sys2Proof.Machine in
/-- Settles O33: the refusal of a payload, and the client release of a JOIN from ACTIVE with its pass and reply. -/
theorem joinActivatesTheClient : Obligations.JoinActivatesTheClient := by
  intro s c hreset hunset x reply
  have hexec : exec (.join (.client c) []) s = .next (State.answered
      { s with
        plant := (s.plant.joined s.lim.effective c).setClient c
          { (s.plant.joined s.lim.effective c).client c with retired := 0 } } .join (.client c) []
      (let y := (s.plant.joined s.lim.effective c).client c
       .okWith ([byte (s.plant.joinCount c), byte y.retired] ++ word y.quota ++ [byte y.window] ++ word y.claimed))) :=
    State.request_client hreset .join [] c hunset join
  refine ⟨fun q hq => ?payload, fun hst => ?present, fun hact hnone => ?nothing, fun hact ha => ?release⟩
  case payload =>
    exact State.request_refused hreset (fun d hd => by cases hd; exact hunset) (by simp [join, hq])
  case present =>
    have hne : (s.plant.client c).state ≠ .active := by
      change x.state ≠ .active
      rcases hst with h | h <;> simp [h]
    have hjoined : s.plant.joined s.lim.effective c = s.plant.setClient c x.activated := by
      rw [Plant.joined, if_neg hne]
    rw [hexec, hjoined, Plant.joinCount, if_neg hne, Plant.client_setClient_self, Plant.setClient_setClient]
    rfl
  case nothing =>
    have hjoined : s.plant.joined s.lim.effective c = s.plant := by
      rw [Plant.joined, if_pos hact, Plant.clientRelease_none hnone]
    rw [hexec, hjoined, Plant.joinCount, if_pos hact, Plant.releasedCount_none hnone]
    rfl
  case release =>
    refine ⟨_, Plant.releaseClient_released (lapse := false) ha, ?_⟩
    have hjoined : s.plant.joined s.lim.effective c
        = s.plant.clientRelease s.lim.effective (releaseOrigin c false) false c := by
      rw [Plant.joined, if_pos hact]
      rfl
    have hclient := (s.plant.clientRelease_client s.lim.effective (releaseOrigin c false) false c).trans
      (s.plant.releaseClient_client c)
    rw [hjoined, Plant.joinCount, if_pos hact, Plant.releasedCount_eq,
      s.plant.setClient_clientRelease s.lim.effective c false fun x => { x with retired := 0 }, hclient] at hexec
    exact hexec
end

section
open Sys2Proof Sys2Proof.Machine in
/-- Settles O34: the refusals of LEAVE, and the client release of a LEAVE and of a lapse with its pass. -/
theorem leaveAndLapseEndThePresenceOfAClient : Obligations.LeaveAndLapseEndThePresenceOfAClient := by
  intro s c hreset x refused passed
  have hrefused {q : List Byte} {st : Status} (hunset : x.state ≠ .unset) (h : leave (.client c) q s = s.refuse st) :
      refused q st := State.request_refused hreset (fun d hd => by cases hd; exact hunset) h
  have hleave (hact : x.state = .active) : exec (.leave (.client c) []) s = .next (State.answered
      { s with
        plant := (s.plant.clientRelease s.lim.effective (.ownerAll c) false c).deactivate c .idle }
      .leave (.client c) [] (.okWith (byte (s.plant.releasedCount c) ::
        word ((s.plant.clientRelease s.lim.effective (.ownerAll c) false c).client c).claimed))) := by
    have hpresent : s.present (.client c) := fun d hd => by cases hd; exact hact
    have hblock : leave (.client c) [] s =
        (s.setPlant ((s.plant.clientRelease s.lim.effective (.ownerAll c) false c).deactivate c .idle),
          .okWith (byte (s.plant.releasedCount c) ::
            word ((s.plant.clientRelease s.lim.effective (.ownerAll c) false c).client c).claimed)) := by
      simp [leave, State.notActive_present hpresent, Plant.deactivate]
    exact (State.request_present hreset hpresent .leave [] leave).trans (by rw [hblock]; rfl)
  have hlapse (hact : x.state = .active) (htimer : x.timer.isSome = true) : exec (.windowExpiry c) s = .next
      { s with plant := s.plant.lapse s.lim.effective c } := by
    refine (State.taking_run hreset _).trans ?_
    rw [if_pos ⟨hact, htimer⟩]
    rfl
  refine ⟨fun q h => ?idle, fun q h => ?lapsed, fun q h hq => ?payload, fun hact hnone => ⟨?leaveNothing, ?lapseNothing⟩,
    fun hact ha => ⟨⟨_, Plant.releaseClient_released (lapse := false) ha, ?leave⟩,
      fun htimer => ⟨_, Plant.releaseClient_released (lapse := true) ha, ?lapse⟩⟩⟩
  case idle => exact hrefused (by simp [h]) (by simp [leave, State.notActive_idle h])
  case lapsed => exact hrefused (by simp [h]) (by simp [leave, State.notActive_lapsed h])
  case payload =>
    have hpresent : s.present (.client c) := fun d hd => by cases hd; exact h
    exact hrefused (by simp [h]) (by simp [leave, State.notActive_present hpresent, hq])
  case leaveNothing =>
    rw [hleave hact, Plant.clientRelease_none hnone, Plant.releasedCount_none hnone]
    rfl
  case lapseNothing =>
    intro htimer
    rw [hlapse hact htimer, Plant.lapse, Plant.clientRelease_none hnone]
    rfl
  case leave =>
    have h := hleave hact
    rw [Plant.releasedCount_eq, Plant.clientRelease_client] at h
    refine h.trans ?_
    rw [Plant.deactivate]
    exact congrArg (fun p : Plant => Host.Outcome.next (State.answered { s with plant := p } _ _ _ _))
      (s.plant.setClient_clientRelease s.lim.effective c false fun x => { x with state := .idle, timer := none })
  case lapse =>
    rw [hlapse hact htimer]
    exact congrArg (fun p : Plant => Host.Outcome.next { s with plant := p })
      (s.plant.setClient_clientRelease s.lim.effective c true fun x => { x with state := .lapsed, timer := none })
end

section
/-! The last settled report of a fall (R72, R74): the record and the lists its outcome gives, and what becomes of the stage
(R63 to R65). -/

namespace Sys2Proof.Machine

/-! ### The resolution of the stage (R65) -/

/-- Two plants with the same records, lists, figures, output stage and clients are the same. -/
theorem Plant.eq_of_parts {p q : Plant} (allots : p.eng.allots = q.eng.allots) (binding : p.eng.binding = q.eng.binding)
    (queue : p.eng.queue = q.eng.queue) (grants : p.eng.grants = q.eng.grants) (stage : p.eng.stage = q.eng.stage)
    (committed : p.eng.committed = q.eng.committed) (levels : p.eng.levels = q.eng.levels) (out : p.out = q.out)
    (clients : p.clients = q.clients) : p = q := by
  refine Plant.eq_of_fields ?_ out clients
  rw [Engine.eq_of_levels levels, allots, binding, queue, grants, stage, committed]

/-! ### The places of a slot whose record changes but for its class and generation (R46, R47) -/

section Places
variable {p q : Plant} {i : SlotIx} {a : Allotment}

theorem Plant.classOf_of_record (ha : ∀ j, q.allot j = if j = i then a else p.allot j) (hc : a.cls = (p.allot i).cls)
    (e : Handle) : q.classOf e = p.classOf e := by
  simp only [Plant.classOf, ha]
  split
  next he => rw [hc, he]
  next => rfl

theorem Plant.handleOf_of_record (ha : ∀ j, q.allot j = if j = i then a else p.allot j)
    (hg : a.generation = (p.allot i).generation) : q.handleOf i = p.handleOf i := by
  rw [Plant.handleOf, ha, if_pos rfl, hg]
  rfl

theorem Plant.queueBack_of_record (ha : ∀ j, q.allot j = if j = i then a else p.allot j)
    (hc : a.cls = (p.allot i).cls) (hg : a.generation = (p.allot i).generation)
    (hl : q.eng.levels = p.eng.levels) (hq : q.eng.queue = p.eng.queue) :
    (q.queueBack i).eng.queue = placeBack p (p.allot i).cls (p.handleOf i) p.eng.queue := by
  rw [Plant.queueBack, Plant.handleOf_of_record ha hg, ha, if_pos rfl, hc, hq]
  exact placeBack_congr (p := p) (q := q) hl (Plant.classOf_of_record ha hc) _ _ _

theorem Plant.queueFront_of_record (ha : ∀ j, q.allot j = if j = i then a else p.allot j)
    (hc : a.cls = (p.allot i).cls) (hg : a.generation = (p.allot i).generation)
    (hl : q.eng.levels = p.eng.levels) (hq : q.eng.queue = p.eng.queue) :
    (q.queueFront i).eng.queue = placeFront p (p.allot i).cls (p.handleOf i) p.eng.queue := by
  rw [Plant.queueFront, Plant.handleOf_of_record ha hg, ha, if_pos rfl, hc, hq]
  exact placeFront_congr (p := p) (q := q) hl (Plant.classOf_of_record ha hc) _ _ _

end Places

section Resolve
variable {p : Plant} {eff : Nat} {i : SlotIx}

/-- A staged allotment that rises: its request targets, the flag, and the back of the grant list (R49, R65). -/
def Plant.stageRisen (p : Plant) (i : SlotIx) : Plant :=
  let b := p.allot i
  let charge := p.transitionCharge b.terms (·.requested)
  { p with
    eng := { p.eng with
      allots := p.eng.allots.set i { b with
        terms := b.terms.map fun x => { x with target := x.requested }, state := .rising, charge := charge
        changed := true, commandId := b.commandId + 1, unsettled := b.terms.map Term.channel }
      stage := none, grants := p.eng.grants ++ [p.handleOf i]
      committed := p.eng.committed - b.charge + charge }
    out := p.out.command b.terms (·.requested) (b.commandId + 1) }

/-- A staged allotment that goes back to waiting, at the front of its rank (R47, R65). -/
def Plant.stageReturned (p : Plant) (i : SlotIx) : Plant :=
  let b := p.allot i
  { p with eng := { p.eng with
      allots := p.eng.allots.set i { b with state := .waiting, changed := true }
      stage := none, queue := placeFront p b.cls (p.handleOf i) p.eng.queue } }

theorem Plant.resolveSlot_rises (h : p.eng.committed + (p.allot i).requestCost ≤ eff) :
    p.resolveSlot eff i = p.stageRisen i := by
  have hfit : p.fits eff (p.allot i).requestCost = true := Plant.fits_iff.mpr h
  have hq : p.resolveSlot eff i
      = (((p.setStage none).startTransition i (·.requested) none).joinGrants i).markChanged .other i := if_pos hfit
  have hallots : (p.resolveSlot eff i).eng.allots = (p.stageRisen i).eng.allots :=
    Plant.allots_eq_set fun j => by
      rw [Plant.allot_resolveSlot, if_pos hfit, Allotment.marked_other]
      rfl
  have hhandle : ((p.setStage none).startTransition i (·.requested) none).handleOf i = p.handleOf i :=
    Plant.handleOf_of_record (Plant.allot_startTransition _ i · _ none) rfl
  rw [hq] at hallots ⊢
  exact Plant.eq_of_parts hallots rfl rfl (congrArg (p.eng.grants ++ [·]) hhandle) rfl
    (Plant.startTransition_committed ..) rfl rfl rfl

theorem Plant.resolveSlot_returns (h : eff < p.eng.committed + (p.allot i).requestCost) :
    p.resolveSlot eff i = p.stageReturned i := by
  have hfit : ¬p.fits eff (p.allot i).requestCost = true := by rw [Plant.fits_iff]; omega
  have hq : p.resolveSlot eff i = (((p.setStage none).setState i .waiting).queueFront i).markChanged .other i :=
    if_neg hfit
  have hallots : (p.resolveSlot eff i).eng.allots = (p.stageReturned i).eng.allots :=
    Plant.allots_eq_set fun j => by rw [Plant.allot_resolveSlot, if_neg hfit]
  have hqueue : (p.resolveSlot eff i).eng.queue = (p.stageReturned i).eng.queue := by
    rw [hq, Plant.markChanged_queue]
    exact Plant.queueFront_of_record ((p.setStage none).allot_setState i · .waiting) rfl rfl rfl rfl
  rw [hq] at hallots hqueue ⊢
  exact Plant.eq_of_parts hallots rfl hqueue rfl rfl rfl rfl rfl rfl

end Resolve

/-! ### What follows the end of a fall (R63, R64) -/

section Follows
variable {p q : Plant} {i : SlotIx}

theorem Plant.settleStage_empty (eff : Nat) (t : Bool) (h : q.eng.stage = none) :
    q.settleStage eff t = if t = true then passWalk eff .other q.eng.queue q else q := by
  rw [Plant.settleStage, h]
  rfl

/-- The stage resolves where no allotment is FALLING any more (R64). -/
theorem Plant.settleStage_resolves (eff : Nat) (t : Bool) {h : Handle} (hs : q.eng.stage = some h)
    (hf : ∀ j, (q.allot j).state.outcome? = none) :
    q.settleStage eff t = (q.resolveSlot eff h.slot).pass eff .other := by
  have hnone : q.anyFalling = false := by simp [Plant.anyFalling, hf]
  rw [Plant.settleStage, hs]
  simp [hnone]

/-- While another allotment is FALLING the stage goes on waiting (R63). -/
theorem Plant.settleStage_bystander (eff : Nat) (t : Bool) (hw : p.stageWaits i) (hs : q.eng.stage = p.eng.stage)
    (ha : ∀ j, j ≠ i → q.allot j = p.allot j) : q.settleStage eff t = q := by
  obtain ⟨hstage, j, hj, hfall⟩ := hw
  refine Plant.settleStage_waits q eff t (by rw [hs]; exact hstage) ?_
  simp only [Plant.anyFalling, List.any_eq_true]
  exact ⟨j, by simp [allSlots], by rw [ha j hj]; exact hfall⟩

end Follows

/-! ### The end of a fall (R74) -/

theorem Allotment.fallen_settled (a : Allotment) (o : FallOutcome) : (a.fallen o).state.outcome? = none := by
  cases o <;> rfl

section Fall
variable {p : Plant} {n : ChannelIx} {i : SlotIx}

/-- The plant after the last report of a fall, which channel `n` made, without what follows it (R72, R74). -/
def Plant.fallEnds (p : Plant) (n : ChannelIx) (i : SlotIx) (o : FallOutcome) : Plant :=
  ((p.withoutReport n).noteSettled i n).endFall i o

theorem Plant.allot_noteSettled (hu : (p.allot i).unsettled = [n]) (j : SlotIx) :
    ((p.withoutReport n).noteSettled i n).allot j =
      if j = i then { p.allot i with unsettled := [] } else p.allot j := by
  have hrest : ((p.withoutReport n).allot i).unsettled.erase n = [] := by
    change (p.allot i).unsettled.erase n = []
    simp [hu]
  rw [Plant.noteSettled, Plant.allot_setAllot, hrest]
  rfl

theorem Plant.allot_fallEnds (hu : (p.allot i).unsettled = [n]) (o : FallOutcome) (j : SlotIx) :
    (p.fallEnds n i o).allot j =
      if j = i then { p.allot i with unsettled := [] }.fallen o else p.allot j := by
  rw [Plant.fallEnds, Plant.allot_endFall, Plant.allot_noteSettled hu, Plant.allot_noteSettled hu, if_pos rfl]
  split <;> rfl

theorem Plant.fallEnds_stage (o : FallOutcome) : (p.fallEnds n i o).eng.stage = p.eng.stage :=
  Plant.endFall_stage _ i o

theorem Plant.endFall_committed (p : Plant) (i : SlotIx) (o : FallOutcome) :
    (p.endFall i o).eng.committed = p.eng.committed - (p.allot i).charge + ((p.allot i).fallen o).charge := by
  have hmoved (st : AllotState) (c : Nat) : ((p.setState i st).setCharge i c).eng.committed
      = p.eng.committed - (p.allot i).charge + c := by
    rw [Plant.setCharge_committed, Plant.allot_setState, if_pos rfl]
    rfl
  cases o with
  | running => exact hmoved .running _
  | reduced => exact hmoved .reduced _
  | waiting => exact hmoved .waiting 0
  | free =>
    simp only [Plant.endFall, Plant.freeSlot_committed, Plant.markChanged_committed, Plant.allot_markChanged, if_true]
    rfl

theorem Plant.fallEnds_committed (hu : (p.allot i).unsettled = [n]) (o : FallOutcome) :
    (p.fallEnds n i o).eng.committed
      = p.eng.committed - (p.allot i).charge + ({ p.allot i with unsettled := [] }.fallen o).charge := by
  rw [Plant.fallEnds, Plant.endFall_committed, Plant.allot_noteSettled hu, if_pos rfl]
  rfl

theorem Plant.fallEnds_out (o : FallOutcome) : (p.fallEnds n i o).out = (p.withoutReport n).out := by
  cases o with
  | free => exact (Plant.freeSlot_frame ..).2.2.2.2.2
  | _ => rfl

/-- A fall that ends in a state with an allotment writes its record, the lists and the committed charge (R74). -/
theorem Plant.fallEnds_eq (hu : (p.allot i).unsettled = [n]) {o : FallOutcome} (ho : o ≠ .free) :
    p.fallEnds n i o = { p.withoutReport n with eng := { p.eng with
      allots := p.eng.allots.set i ({ p.allot i with unsettled := [] }.fallen o)
      queue := (p.fallEnds n i o).eng.queue, grants := (p.fallEnds n i o).eng.grants
      committed := p.eng.committed - (p.allot i).charge + ({ p.allot i with unsettled := [] }.fallen o).charge } } := by
  refine Plant.eq_of_parts (Plant.allots_eq_set (Plant.allot_fallEnds hu o)) ?binding rfl rfl (Plant.fallEnds_stage o)
    (Plant.fallEnds_committed hu o) ?levels (Plant.fallEnds_out o) ?clients
  all_goals
    cases o with
    | free => exact absurd rfl ho
    | _ => rfl

theorem Plant.allot_noteSettled_settled (hu : (p.allot i).unsettled = [n]) (st : AllotState) (c : Nat) (j : SlotIx) :
    ((((p.withoutReport n).noteSettled i n).setState i st).setCharge i c).allot j =
      if j = i then { p.allot i with unsettled := [], state := st, charge := c } else p.allot j := by
  rw [Plant.allot_settled, Plant.allot_noteSettled hu, Plant.allot_noteSettled hu, if_pos rfl]
  split <;> rfl

theorem Plant.fallEnds_queue_reduced (hu : (p.allot i).unsettled = [n]) :
    (p.fallEnds n i .reduced).eng.queue = placeBack p (p.allot i).cls (p.handleOf i) p.eng.queue :=
  Plant.queueBack_of_record (Plant.allot_noteSettled_settled hu .reduced _) rfl rfl rfl rfl

theorem Plant.fallEnds_queue_waiting (hu : (p.allot i).unsettled = [n]) :
    (p.fallEnds n i .waiting).eng.queue = placeFront p (p.allot i).cls (p.handleOf i) p.eng.queue :=
  Plant.queueFront_of_record (Plant.allot_noteSettled_settled hu .waiting 0) rfl rfl rfl rfl

theorem Plant.fallEnds_grants_waiting :
    (p.fallEnds n i .waiting).eng.grants = p.eng.grants.filter fun h => h.slot ≠ i := rfl

/-- A fall to FREE frees the slot after it left the grant list (R50, R74). -/
theorem Plant.fallEnds_free_eng (hu : (p.allot i).unsettled = [n]) :
    (p.fallEnds n i .free).eng = { p.eng with
      allots := p.eng.allots.set i { (p.allot i).asFree with generation := (p.allot i).generation + 1 }
      binding := (p.fallEnds n i .free).eng.binding
      grants := p.eng.grants.filter fun h => h.slot ≠ i
      committed := p.eng.committed - (p.allot i).charge } := by
  obtain ⟨-, hqueue, hgrants, hstage, hlevels, -⟩ :=
    Plant.freeSlot_frame (((((p.withoutReport n).noteSettled i n).leaveGrants i).markChanged .other i)) i
  have hallots : (p.fallEnds n i .free).eng.allots
      = p.eng.allots.set i { (p.allot i).asFree with generation := (p.allot i).generation + 1 } :=
    Plant.allots_eq_set (Plant.allot_fallEnds hu .free)
  have hcommitted : (p.fallEnds n i .free).eng.committed = p.eng.committed - (p.allot i).charge :=
    Plant.fallEnds_committed hu .free
  rw [Engine.eq_of_levels (x := (p.fallEnds n i .free).eng) (e := p.eng) hlevels, hallots, hcommitted,
    show (p.fallEnds n i .free).eng.queue = p.eng.queue from hqueue,
    show (p.fallEnds n i .free).eng.stage = p.eng.stage from hstage,
    show (p.fallEnds n i .free).eng.grants = p.eng.grants.filter fun h => h.slot ≠ i from hgrants]

theorem Plant.allot_unsettled_unlisted (hu : (p.allot i).unsettled = [n]) :
    ((((p.withoutReport n).noteSettled i n).leaveGrants i).markChanged .other i).allot i
      = { p.allot i with unsettled := [], changed := true } := by
  rw [Plant.allot_markChanged, if_pos rfl, Plant.leaveGrants_allot, Plant.allot_noteSettled hu, if_pos rfl]
  simp [Origin.spares]

theorem Plant.fallEnds_free_binding (hu : (p.allot i).unsettled = [n]) (m : ChannelIx) :
    (p.fallEnds n i .free).eng.binding[m] =
      if m ∈ (p.allot i).terms.map Term.channel then none else p.eng.binding[m] := by
  rw [Plant.fallEnds, Plant.endFall, Plant.binding_freeSlot, Plant.allot_unsettled_unlisted hu]
  rfl

theorem Plant.fallEnds_free_clients (hu : (p.allot i).unsettled = [n]) {c : ClientIx}
    (ho : (p.allot i).owner = some c) : (p.fallEnds n i .free).clients = p.clients.set c { p.client c with
      claimed := (p.client c).claimed - (p.allot i).requestCost } := by
  rw [Plant.fallEnds, Plant.endFall, Plant.clients_freeSlot (c := c), Plant.allot_unsettled_unlisted hu]
  · rfl
  · rw [Plant.allot_unsettled_unlisted hu]
    exact ho

theorem Plant.fallEnds_free_unowned (hu : (p.allot i).unsettled = [n]) (ho : (p.allot i).owner = none) :
    (p.fallEnds n i .free).clients = p.clients := by
  refine Plant.clients_ext fun c => ?_
  change (Plant.freeSlot _ i).client c = p.client c
  rw [Plant.client_freeSlot, Plant.allot_unsettled_unlisted hu]
  simp [ho]
  rfl

end Fall

/-- The report that empties the unsettled set settles the allotment (R72). -/
theorem Plant.takeReport_last {p : Plant} {i : SlotIx} {r : Report} (eff : Nat)
    (hbinding : p.eng.binding[r.channel] = some (p.handleOf i)) (htakes : (p.allot i).takesReport r = true)
    (hlast : (p.allot i).unsettled.erase r.channel = []) :
    p.takeReport eff r = (p.noteSettled i r.channel).settle eff i := by
  unfold Plant.takeReport
  rw [hbinding]
  exact (if_pos htakes).trans (if_pos hlast)

theorem Plant.settle_falling {p : Plant} {i : SlotIx} {o : FallOutcome} (eff : Nat)
    (hst : (p.allot i).state = .falling o) : p.settle eff i = p.settleFall eff i o := by
  rw [Plant.settle, hst]

theorem State.settledReport_takes {s : State} {n : ChannelIx} {r : Report} (hreset : s.inReset = false)
    (hreport : (s.plant.out.reports.find? fun x => x.channel == n) = some r) :
    exec (.settledReport n) s
      = .next { s with plant := (s.plant.withoutReport n).takeReport s.lim.effective r } := by
  change execSettledReport n s = _
  rw [execSettledReport, State.taking_run hreset, hreport]
  rfl

/-- The last report of a FALLING allotment ends its fall (R72, R74). -/
theorem State.settledReport_endsFall {s : State} {n : ChannelIx} {i : SlotIx} {r : Report} {o : FallOutcome}
    (hreset : s.inReset = false) (hreport : (s.plant.out.reports.find? fun x => x.channel == n) = some r)
    (hbinding : s.plant.eng.binding[n] = some (s.plant.handleOf i))
    (hcommand : r.command = some (s.plant.allot i).commandId) (hu : (s.plant.allot i).unsettled = [n])
    (hst : (s.plant.allot i).state = .falling o) :
    exec (.settledReport n) s = .next { s with
      plant := (s.plant.fallEnds n i o).settleStage s.lim.effective
        (fallTrigger s.plant (s.plant.fallEnds n i o) o) } := by
  obtain rfl : r.channel = n := by simpa using List.find?_some hreport
  have htakes : (s.plant.allot i).takesReport r = true := by
    simp [Allotment.takesReport, hst, AllotState.outcome?, hu, hcommand]
  have hlast : (s.plant.allot i).unsettled.erase r.channel = [] := by simp [hu]
  have hfalling : (((s.plant.withoutReport r.channel).noteSettled i r.channel).allot i).state = .falling o := by
    rw [Plant.allot_noteSettled hu, if_pos rfl]
    exact hst
  rw [State.settledReport_takes hreset hreport,
    Plant.takeReport_last (p := s.plant.withoutReport r.channel) s.lim.effective hbinding htakes hlast,
    Plant.settle_falling s.lim.effective hfalling]
  rfl

end Sys2Proof.Machine

open Sys2Proof Sys2Proof.Machine in
/-- Settles O50: the end of a fall by its outcome, and the stage it resolves or the pass it starts. -/
theorem settledReportOfAFallEndsInItsOutcome : Obligations.SettledReportOfAFallEndsInItsOutcome := by
  intro s n i r hreset hreport hbinding hcommand hu a e eff out becomes follows ends
  have hfollows {o : FallOutcome} (hst : a.state = .falling o) :
      follows (s.plant.fallEnds n i o) (o == .reduced || o == .waiting) := by
    have hexec := State.settledReport_endsFall hreset hreport hbinding hcommand hu hst
    have hstage : (s.plant.fallEnds n i o).eng.stage = e.stage := Plant.fallEnds_stage o
    have hallot := Plant.allot_fallEnds hu o
    have hsettled (j : SlotIx) (hothers : ∀ j, j ≠ i → (s.plant.allot j).state.outcome? = none) :
        ((s.plant.fallEnds n i o).allot j).state.outcome? = none := by
      rw [hallot]
      split
      next => exact Allotment.fallen_settled _ o
      next hj => exact hothers j hj
    refine ⟨fun hw => hexec.trans ?waits, fun hempty => hexec.trans ?empty, fun h hh _ hothers =>
      ⟨fun hfits => hexec.trans ?rises, fun hlacks => ⟨hexec.trans ?returns, fun hord =>
        Plant.queuedAtFront_placeFront hord _ _⟩⟩⟩
    case waits => rw [Plant.settleStage_bystander _ _ hw hstage fun j hj => by rw [hallot, if_neg hj]]
    case empty =>
      rw [Plant.settleStage_empty _ _ (hstage.trans hempty)]
      have htrigger : (fallTrigger s.plant (s.plant.fallEnds n i o) o = true)
          = ((o == .reduced || o == .waiting) = true ∨ (s.plant.fallEnds n i o).eng.committed < e.committed) := by
        simp [fallTrigger, e]
      simp only [htrigger]
      rfl
    case rises =>
      rw [Plant.settleStage_resolves _ _ (hstage.trans hh) (hsettled · hothers), Plant.resolveSlot_rises hfits]
      rfl
    case returns =>
      rw [Plant.settleStage_resolves _ _ (hstage.trans hh) (hsettled · hothers), Plant.resolveSlot_returns hlacks]
      rfl
  refine ⟨fun hst => ?running, fun hst => ⟨?reduced, fun hord => Plant.queuedAtBack_placeBack hord _ _⟩,
    fun hst => ⟨?waiting, fun hord => Plant.queuedAtFront_placeFront hord _ _⟩, fun hst =>
      ⟨s.plant.fallEnds n i .free, hfollows hst, Plant.fallEnds_out .free, Plant.fallEnds_free_eng hu,
        Plant.fallEnds_free_binding hu, fun c hc => Plant.fallEnds_free_clients hu hc,
        fun hc => Plant.fallEnds_free_unowned hu hc⟩⟩
  case running =>
    have hend := Plant.fallEnds_eq (n := n) hu (o := .running) (by decide)
    have h := hfollows hst
    rw [hend] at h
    exact h
  case reduced =>
    have hend := Plant.fallEnds_eq (n := n) hu (o := .reduced) (by decide)
    rw [Plant.fallEnds_queue_reduced hu] at hend
    have h := hfollows hst
    rw [hend] at h
    exact h
  case waiting =>
    have hend := Plant.fallEnds_eq (n := n) hu (o := .waiting) (by decide)
    rw [Plant.fallEnds_queue_waiting hu, Plant.fallEnds_grants_waiting] at hend
    have h := hfollows hst
    rw [hend] at h
    exact h
end

section
/-! RESHAPE (R80 to R84): its tests in their order, and what the accepted ones store. -/

namespace Sys2Proof.Machine

/-! ### The duties of the payload (10.2) -/

theorem withDuties_bytes (ts : List Term) (ds : List Byte) :
    withDuties ts (ds.map BitVec.toNat) = List.zipWith (fun t d => { t with requested := d.toNat }) ts ds :=
  List.zipWith_map_right ..

theorem Plant.reshapeCharge_bytes (p : Plant) (a : Allotment) (ds : List Byte) :
    p.reshapeCharge a (ds.map BitVec.toNat) = (List.zipWith (fun t d =>
      costAt (p.chan t.channel).rating (max t.requested d.toNat)) a.terms ds).sum :=
  congrArg List.sum (List.zipWith_map_right ..)

theorem raisesDuty_bytes (ts : List Term) (ds : List Byte) :
    raisesDuty ts (ds.map BitVec.toNat)
      = (List.zipWith (fun (t : Term) (d : Byte) => decide (t.requested < d.toNat)) ts ds).any id :=
  congrArg (List.any · id) (List.zipWith_map_right ..)

theorem any_zero_bytes {ds : List Byte} : (ds.map BitVec.toNat).any (· == 0) = true ↔ 0 ∈ ds := by
  have hzero (d : Byte) : d.toNat = 0 ↔ d = 0 := ⟨fun h => BitVec.eq_of_toNat_eq h, fun h => by rw [h]; rfl⟩
  simp [hzero]

/-- The duties already asked for raise none. -/
theorem raisesDuty_same (ts : List Term) : raisesDuty ts (ts.map (·.requested)) = false := by
  induction ts with
  | nil => rfl
  | cons t ts ih => simpa [raisesDuty] using ih

/-! ### The tests (R80) -/

section Tests
variable {s : State} {c : ClientIx} {i : SlotIx} {ds : List Byte}

/-- A well-formed RESHAPE of a RUNNING or WAITING allotment (orders 9 to 11 of R80, then R81 to R83). -/
def State.reshapePriced (s : State) (c : ClientIx) (i : SlotIx) (duties : List Nat) : State × BlockReply :=
  let p := s.plant
  let a := p.allot i
  let cost := p.requestCostOf (withDuties a.terms duties)
  let increase := p.reshapeCharge a duties - a.charge
  if (p.client c).quota < (p.client c).claimed + cost - a.requestCost then s.refuse .overQuota
  else if s.lim.configured < cost then s.refuse .overCeiling
  else if a.state = .running ∧ raisesDuty a.terms duties
      ∧ s.lim.effective < p.eng.committed + p.reserve + increase then
    (s, ⟨.noRoom, word increase ++ word (s.lim.effective - p.eng.committed - p.reserve)⟩)
  else (s.setPlant (p.reshapeAccepted i duties), (p.reshapeAccepted i duties).reshapeReply i)

/-- A RESHAPE whose sender, length and handle have passed (orders 6 to 11 of R80). -/
def State.reshapeTo (s : State) (c : ClientIx) (i : SlotIx) (duties : List Nat) : State × BlockReply :=
  let a := s.plant.allot i
  if duties.length ≠ a.terms.length then s.refuse .badLength
  else if duties.any (· == 0) then s.refuse .badField
  else if ¬(a.state = .running ∨ a.state = .waiting) then s.refuse .wrongState
  else s.reshapePriced c i duties

/-- The owner's RESHAPE of a present handle, with one to four duties, reaches those tests (R80). -/
theorem reshape_reaches (hrun : s.ctl.part = .run) (hask : s.ownerAsks c i) (h1 : 1 ≤ ds.length) (h4 : ds.length ≤ 4) :
    reshape (.client c) ((s.plant.handleOf i).bytes ++ ds) s = s.reshapeTo c i (ds.map BitVec.toNat) := by
  obtain ⟨-, hact, hfree, hown⟩ := hask
  have hhandle : s.handleTest (.client c) ((s.plant.handleOf i).bytes ++ ds) = .ok i :=
    State.handleTest_ok ds hfree (.inr hown)
  have hlength : ¬(((s.plant.handleOf i).bytes ++ ds).length < 3 ∨ 6 < ((s.plant.handleOf i).bytes ++ ds).length) := by
    simp only [List.length_append, Handle.bytes, List.length_cons, List.length_nil]
    omega
  have hduties : reshapeDuties ((s.plant.handleOf i).bytes ++ ds) = ds.map BitVec.toNat := rfl
  simp only [reshape, hrun, State.notActive_present (State.present_client hact), if_neg hlength, hhandle, hduties,
    ne_eq, not_true_eq_false, if_false]
  rfl

theorem State.reshapeTo_priced (hlen : ds.length = (s.plant.allot i).terms.length) (hmem : 0 ∉ ds)
    (hst : (s.plant.allot i).state = .running ∨ (s.plant.allot i).state = .waiting) :
    s.reshapeTo c i (ds.map BitVec.toNat) = s.reshapePriced c i (ds.map BitVec.toNat) := by
  have hzero : ¬(ds.map BitVec.toNat).any (· == 0) = true := fun hz => hmem (any_zero_bytes.mp hz)
  simp [State.reshapeTo, hlen, hzero, hst]

/-- The tests of R80 that a RESHAPE within `State.reshapePasses` has passed. -/
theorem State.reshapePasses.reaches (h : s.reshapePasses c i ds) :
    reshape (.client c) ((s.plant.handleOf i).bytes ++ ds) s =
      let p := s.plant
      let a := p.allot i
      let duties := ds.map BitVec.toNat
      let increase := p.reshapeCharge a duties - a.charge
      if a.state = .running ∧ raisesDuty a.terms duties
          ∧ s.lim.effective < p.eng.committed + p.reserve + increase then
        (s, ⟨.noRoom, word increase ++ word (s.lim.effective - p.eng.committed - p.reserve)⟩)
      else (s.setPlant (p.reshapeAccepted i duties), (p.reshapeAccepted i duties).reshapeReply i) := by
  obtain ⟨hask, hrun, hst, hlen, h1, h4, hne, hquota, hceiling⟩ := h
  rw [reshape_reaches hrun hask h1 h4, State.reshapeTo_priced hlen (fun hz => hne 0 hz rfl) hst]
  exact (if_neg (Nat.not_lt.mpr hquota)).trans (if_neg (Nat.not_lt.mpr hceiling))

/-- What the engine returns is the answer to the owner's RESHAPE. -/
theorem State.ownerAsks.exec_reshape (hask : s.ownerAsks c i) {p : List Byte} {x : State × BlockReply}
    (h : reshape (.client c) p s = x) :
    exec (.reshape (.client c) p) s = .next (x.1.answered .reshape (.client c) p x.2) := by
  obtain ⟨hreset, hact, -⟩ := hask
  rw [← h]
  exact State.request_present hreset (State.present_client hact) .reshape p reshape

/-- A RESHAPE that passes all tests is stored, and answered from what was stored (R81 to R84). -/
theorem State.reshapePasses.accepted (h : s.reshapePasses c i ds)
    (hroom : (s.plant.allot i).state = .running → raisesDuty (s.plant.allot i).terms (ds.map BitVec.toNat) = true →
      s.plant.eng.committed + s.plant.reserve
        + (s.plant.reshapeCharge (s.plant.allot i) (ds.map BitVec.toNat) - (s.plant.allot i).charge)
        ≤ s.lim.effective)
    {q : Plant} {b : BlockReply} (hq : s.plant.reshapeAccepted i (ds.map BitVec.toNat) = q)
    (hb : q.reshapeReply i = b) :
    exec (.reshape (.client c) ((s.plant.handleOf i).bytes ++ ds)) s = .next
      (State.answered { s with plant := q } .reshape (.client c) ((s.plant.handleOf i).bytes ++ ds) b) := by
  subst hq hb
  have hfits : ¬((s.plant.allot i).state = .running
      ∧ raisesDuty (s.plant.allot i).terms (ds.map BitVec.toNat) = true
      ∧ s.lim.effective < s.plant.eng.committed + s.plant.reserve
        + (s.plant.reshapeCharge (s.plant.allot i) (ds.map BitVec.toNat) - (s.plant.allot i).charge)) :=
    fun ⟨hrun, hraises, hlacks⟩ => absurd (hroom hrun hraises) (Nat.not_le.mpr hlacks)
  exact h.1.exec_reshape (h.reaches.trans (if_neg hfits))

end Tests

/-! ### The stored duties (R81) -/

section Store
variable {p : Plant} {c : ClientIx} {i : SlotIx}

/-- The record of a reshape, with the duties written as bytes (R81). -/
theorem Plant.reshaped_bytes (p : Plant) (a : Allotment) (ds : List Byte) :
    p.reshaped a (ds.map BitVec.toNat) =
      let terms := List.zipWith (fun (t : Term) (d : Byte) => { t with requested := d.toNat }) a.terms ds
      { a with
        terms := terms, requestCost := p.requestCostOf terms
        floor := a.floor.map fun f => { fraction := f.fraction, cost := p.floorCostOf terms f.fraction } } := by
  rw [Plant.reshaped, withDuties_bytes]
  simp only [Plant.floorPart, Option.map_map]
  rfl

/-- New duties write one record and move the owner's claimed total (R81, R136). -/
theorem Plant.storeReshape_eq (ho : (p.allot i).owner = some c) (duties : List Nat) :
    p.storeReshape i duties = { p with
      eng := { p.eng with allots := p.eng.allots.set i (p.reshaped (p.allot i) duties) }
      clients := p.clients.set c { p.client c with
        claimed := (p.client c).claimed + (p.reshaped (p.allot i) duties).requestCost
          - (p.allot i).requestCost } } := by
  rw [Plant.storeReshape, ho]
  rfl

/-- The reply reads the record that the event left (R84). -/
theorem Plant.reshapeReply_of_record {q : Plant} {a : Allotment} (ha : q.allot i = a)
    (hg : a.generation = (p.allot i).generation) :
    q.reshapeReply i = .okWith ((p.handleOf i).bytes ++ [byte a.state.code, a.state.outcomeByte]
      ++ word a.requestCost ++ word a.floorCost ++ word a.charge) := by
  rw [Plant.reshapeReply, Plant.handleOf, ha, hg]
  rfl

end Store

end Sys2Proof.Machine

open Sys2Proof Sys2Proof.Machine in
/-- Settles O27: the refusals in the order of R80; then the same duties, and NO_ROOM. -/
theorem reshapeRefusedOrToTheSameDutiesChangesNothing :
    Obligations.ReshapeRefusedOrToTheSameDutiesChangesNothing := by
  refine ⟨fun s c p hreset hrun => ?refused, fun s c i ds h hst => ⟨fun hsame => ?same, fun hraises hlacks => ?noRoom⟩⟩
  case refused =>
    intro x refused
    have hrefused {st : Status} (hunset : x.state ≠ .unset) (h : reshape (.client c) p s = s.refuse st) : refused st :=
      State.request_refused hreset (fun d hd => by cases hd; exact hunset) h
    refine ⟨fun h => ?idle, fun h => ?lapsed, fun h hlen => ?length, fun i ds hask hp h1 h4 => ?handled⟩
    case idle => exact hrefused (by simp [h]) (by simp [reshape, hrun, State.notActive_idle h])
    case lapsed => exact hrefused (by simp [h]) (by simp [reshape, hrun, State.notActive_lapsed h])
    case length =>
      exact hrefused (by simp [h]) (by simp [reshape, hrun, State.notActive_present (State.present_client h), hlen])
    case handled =>
      subst hp
      intro a cost
      have hcost : cost = s.plant.requestCostOf (withDuties a.terms (ds.map BitVec.toNat)) := by
        rw [withDuties_bytes]
      have hanswer {st : Status} (h : s.reshapeTo c i (ds.map BitVec.toNat) = s.refuse st) : refused st :=
        hask.exec_reshape ((reshape_reaches hrun hask h1 h4).trans h)
      refine ⟨fun hlen => hanswer ?count, fun hlen hmem => hanswer ?zero,
        fun hlen hmem hrunning hwaiting => hanswer ?state, fun hlen hmem hst =>
          ⟨fun hquota => hanswer ((State.reshapeTo_priced hlen hmem hst).trans ?quota),
            fun hquota hceiling => hanswer ((State.reshapeTo_priced hlen hmem hst).trans ?ceiling)⟩⟩
      case count => simp [State.reshapeTo, a, hlen]
      case zero => simp [State.reshapeTo, a, hlen, any_zero_bytes.mpr hmem]
      case state =>
        have hzero : ¬(ds.map BitVec.toNat).any (· == 0) = true := fun hz => hmem (any_zero_bytes.mp hz)
        simp [State.reshapeTo, a, hlen, hzero, hrunning, hwaiting]
      case quota =>
        rw [hcost] at hquota
        exact if_pos hquota
      case ceiling =>
        rw [hcost] at hquota hceiling
        exact (if_neg (Nat.not_lt.mpr hquota)).trans (if_pos hceiling)
  case same =>
    have hstays : s.plant.reshapeAccepted i (ds.map BitVec.toNat) = s.plant := by
      simp [Plant.reshapeAccepted, hst, hsame]
    have hreply := Plant.reshapeReply_of_record (p := s.plant) (q := s.plant) (i := i) rfl rfl
    rw [hst] at hreply
    refine h.accepted (fun _ hraises => ?_) hstays hreply
    rw [← hsame, raisesDuty_same] at hraises
    cases hraises
  case noRoom =>
    rw [← Plant.reshapeCharge_bytes] at hlacks ⊢
    exact h.1.exec_reshape (h.reaches.trans (if_pos ⟨hst, (raisesDuty_bytes ..).trans hraises, hlacks⟩))
end

section
open Sys2Proof Sys2Proof.Machine in
/-- Settles O25: the stored record, which no pass follows, and the reply read from it. -/
theorem reshapeOfWaitingStoresTheDutiesInPlace : Obligations.ReshapeOfWaitingStoresTheDutiesInPlace := by
  intro s c i ds h hst a terms a'
  have hrecord : s.plant.reshaped a (ds.map BitVec.toNat) = a' := Plant.reshaped_bytes ..
  have hown : a.owner = some c := by
    obtain ⟨⟨-, -, -, hown⟩, -⟩ := h
    exact hown
  have hstored : s.plant.reshapeAccepted i (ds.map BitVec.toNat) = s.plant.storeReshape i (ds.map BitVec.toNat) := by
    rw [Plant.reshapeAccepted, if_pos hst]
  have hallot : (s.plant.storeReshape i (ds.map BitVec.toNat)).allot i = a' := by
    rw [Plant.allot_storeReshape, if_pos rfl]
    exact hrecord
  have hreply := Plant.reshapeReply_of_record (p := s.plant) hallot rfl
  have hwaiting : a'.state = .waiting := hst
  rw [hwaiting] at hreply
  rw [Plant.storeReshape_eq hown, hrecord] at hstored hreply
  exact h.accepted (fun hrun => by rw [hst] at hrun; cases hrun) hstored hreply
end

section
/-! A RESHAPE that starts a transition (R82 to R84), and what a transition command does to the channels (R105, R112,
R113). -/

namespace Sys2Proof.Machine

/-! ### The lowest-numbered of least load (R113) -/

/-- Keeping the first of the least values seen, from `b` on along a list in ascending order: none of them is less than
the result, and those before it are greater. -/
theorem foldl_least {α : Type} [Preorder α] (f : α → Nat) (l : List α) (b : α) (hl : (b :: l).Pairwise (· ≤ ·)) :
    let r := l.foldl (fun best k => if f k < f best then k else best) b
    ∀ k ∈ b :: l, f r ≤ f k ∧ (k < r → f r < f k) := by
  induction l generalizing b with
  | nil => simp
  | cons a l ih =>
    rw [List.foldl_cons]
    obtain ⟨hb, ha⟩ := List.pairwise_cons.mp hl
    split
    next hlt =>
      intro r k hk
      have hrest := ih a ha
      rcases List.mem_cons.mp hk with rfl | hk
      · have hless := (hrest a List.mem_cons_self).1.trans_lt hlt
        exact ⟨hless.le, fun _ => hless⟩
      · exact hrest k hk
    next hge =>
      intro r k hk
      have hrest := ih b (hl.sublist ((List.sublist_cons_self a l).cons_cons b))
      obtain ⟨hle, hless⟩ := hrest b List.mem_cons_self
      rcases List.mem_cons.mp hk with rfl | hk
      · exact ⟨hle, hless⟩
      rcases List.mem_cons.mp hk with rfl | hk
      · exact ⟨hle.trans (Nat.not_lt.mp hge),
          fun hr => (hless ((hb k List.mem_cons_self).trans_lt hr)).trans_le (Nat.not_lt.mp hge)⟩
      · exact hrest k (List.mem_cons_of_mem _ hk)

/-- The phase slot of a channel that leaves OFF: of least load, and the lowest-numbered of those (R113). -/
theorem OutputStage.leastLoaded_least (o : OutputStage) :
    (∀ k, o.load o.leastLoaded ≤ o.load k) ∧ ∀ k, k < o.leastLoaded → o.load o.leastLoaded < o.load k := by
  have hasc : ((0 : PhaseIx) :: List.finRange 8).Pairwise (· ≤ ·) := by decide
  have hmem (k : PhaseIx) : k ∈ 0 :: List.finRange 8 := List.mem_cons_of_mem _ (List.mem_finRange k)
  have hleast := foldl_least o.load (List.finRange 8) 0 hasc
  exact ⟨fun k => (hleast k (hmem k)).1, fun k => (hleast k (hmem k)).2⟩

/-! ### One channel of a transition command (R105, R110) -/

theorem OutputStage.takeCommand_faulted {o : OutputStage} {n : ChannelIx} (h : o.channels[n].state = .faulted) (d : Nat)
    (id : BitVec 16) : o.takeCommand n d id = o := if_pos h

/-- A channel that is not FAULTED takes the identity and the target and turns toward it, and its report of the command
before no longer waits (R72, R105, R106, R110). -/
theorem OutputStage.takeCommand_live {o : OutputStage} {n : ChannelIx} (h : o.channels[n].state ≠ .faulted) (d : Nat)
    (id : BitVec 16) :
    let c := o.channels[n]
    o.takeCommand n d id = { o with
      reports := o.reports.filter fun r => r.channel ≠ n
      channels := o.channels.set n { c with
        command := some id, target := d, reportDue := decide (d = c.applied)
        state := if c.applied < d then .rise else if d < c.applied then .fall else c.state
        phase := if c.applied < d ∧ c.state = .off then some o.leastLoaded else c.phase } } := by
  intro c
  change (if c.state = .faulted then _ else _) = _
  rw [if_neg h]
  rcases Nat.lt_trichotomy c.applied d with hlt | heq | hgt
  · have hne : d ≠ c.applied := hlt.ne'
    simp only [c, hlt, hne, if_true, true_and, decide_false]
    rfl
  · subst heq
    simp only [c, Nat.lt_irrefl, if_false, false_and, decide_true]
    rfl
  · have hnlt : ¬c.applied < d := by omega
    have hne : d ≠ c.applied := hgt.ne
    simp only [c, hnlt, hgt, hne, if_false, if_true, false_and, decide_false]
    rfl

/-! ### The transition of a reshape (R82, R83) -/

section Reshape
variable {p : Plant} {c : ClientIx} {i : SlotIx} {ts : List Term} {ds : List Nat}

/-- From its requested duties an allotment rises toward new ones where these raise one (R69, R82). -/
theorem Plant.anyRising_withDuties (h : ∀ t ∈ ts, (p.chan t.channel).applied = t.requested) :
    p.anyRising (withDuties ts ds) (·.requested) = raisesDuty ts ds := by
  induction ts generalizing ds with
  | nil => rfl
  | cons t ts ih =>
    cases ds with
    | nil => rfl
    | cons d ds =>
      have hrest := ih (ds := ds) fun u hu => h u (List.mem_cons_of_mem _ hu)
      simp only [Plant.anyRising, raisesDuty, withDuties, List.zipWith_cons_cons, List.any_cons, id,
        h t List.mem_cons_self] at hrest ⊢
      rw [hrest]

/-- The record of a RUNNING allotment, settled at its requested duties, after a RESHAPE that changes them (R82, R83). -/
def Plant.restarted (p : Plant) (a : Allotment) (ds : List Nat) : Allotment :=
  { p.reshaped a ds with
    terms := (p.reshaped a ds).terms.map fun x => { x with target := x.requested }
    state := if raisesDuty a.terms ds then .rising else .falling .running
    charge := p.reshapeCharge a ds, commandId := a.commandId + 1, unsettled := a.terms.map Term.channel }

/-- The plant after that RESHAPE, by client `c`. -/
def Plant.reshapeStarted (p : Plant) (i : SlotIx) (c : ClientIx) (ds : List Nat) : Plant :=
  let a := p.allot i
  let a' := p.reshaped a ds
  { eng := { p.eng with
      allots := p.eng.allots.set i (p.restarted a ds)
      committed := p.eng.committed - a.charge + p.reshapeCharge a ds }
    out := p.out.command a'.terms (·.requested) (a.commandId + 1)
    clients := p.clients.set c { p.client c with
      claimed := (p.client c).claimed + a'.requestCost - a.requestCost } }

theorem Plant.allot_reshapeStarted (p : Plant) (i : SlotIx) (c : ClientIx) (ds : List Nat) :
    (p.reshapeStarted i c ds).allot i = p.restarted (p.allot i) ds := by
  simp [Plant.allot, Plant.reshapeStarted]

theorem Plant.reshapeAccepted_starts (hst : (p.allot i).state = .running) (ho : (p.allot i).owner = some c)
    (hlen : ds.length = (p.allot i).terms.length) (hne : (p.allot i).terms.map (·.requested) ≠ ds)
    (hsettled : ∀ t ∈ (p.allot i).terms, (p.chan t.channel).applied = t.requested) :
    p.reshapeAccepted i ds = p.reshapeStarted i c ds := by
  have hrecord : (p.storeReshape i ds).allot i = p.reshaped (p.allot i) ds :=
    (p.allot_storeReshape i i ds).trans (if_pos rfl)
  have hstart : p.reshapeAccepted i ds = (p.storeReshape i ds).startTransition i (·.requested) (some .running) := by
    rw [Plant.reshapeAccepted, hst, if_neg (by decide), if_neg hne]
  have hstored := Plant.storeReshape_eq ho ds
  have hrising : p.anyRising (p.reshaped (p.allot i) ds).terms (·.requested) = raisesDuty (p.allot i).terms ds :=
    Plant.anyRising_withDuties hsettled
  have hcharge : p.transitionCharge (p.reshaped (p.allot i) ds).terms (·.requested) = p.reshapeCharge (p.allot i) ds :=
    Plant.transitionCharge_withDuties hsettled
  have hallots : (p.reshapeAccepted i ds).eng.allots = (p.reshapeStarted i c ds).eng.allots := by
    have hallot := p.allot_reshapeAccepted i (ds := ds)
    have hmotion : p.reshapedRecord (p.allot i) ds
        = p.inMotion (p.reshaped (p.allot i) ds) (·.requested) (some .running) := by
      rw [Plant.reshapedRecord, hst, if_neg (by decide), if_neg hne]
    rw [Plant.allots_eq_set hallot, hmotion]
    simp only [Plant.inMotion, Plant.inTransition, Plant.transitionState, hrising, hcharge]
    simp only [Plant.reshapeStarted, Plant.restarted, ← withDuties_channels hlen]
    rfl
  have hout : (p.storeReshape i ds).out = p.out := by rw [hstored]
  have hcommitted : ((p.storeReshape i ds).startTransition i (·.requested) (some .running)).eng.committed
      = (p.reshapeStarted i c ds).eng.committed := by
    have hsame (ts : List Term) (d : Term → Nat) :
        (p.storeReshape i ds).transitionCharge ts d = p.transitionCharge ts d := by
      simp only [Plant.transitionCharge, Plant.costOf, Plant.chan, hout]
    rw [Plant.startTransition_committed, hrecord, hsame, hcharge, hstored]
    rfl
  rw [hstart] at hallots ⊢
  refine Plant.eq_of_parts hallots ?binding ?queue ?grants ?stage hcommitted ?levels ?out ?clients
  case out => rw [Plant.startTransition_out, hrecord, hout]; rfl
  case clients => rw [Plant.startTransition_clients, hstored]; rfl
  all_goals rw [hstored]; rfl

end Reshape

end Sys2Proof.Machine

open Sys2Proof Sys2Proof.Machine in
/-- Settles O26: the transition that the accepted RESHAPE starts; then a transition command, channel by channel. -/
theorem reshapeOfRunningStartsATransition : Obligations.ReshapeOfRunningStartsATransition := by
  refine ⟨fun s c i ds h hst hsettled hne => ?reshape, fun o id d => ⟨rfl, fun x rest => ?command⟩⟩
  case reshape =>
    intro a hd terms charge floor rises hroom
    have hcharge : s.plant.reshapeCharge a (ds.map BitVec.toNat) = charge := Plant.reshapeCharge_bytes ..
    have hrises : raisesDuty a.terms (ds.map BitVec.toNat) = rises := raisesDuty_bytes ..
    have hrecord := s.plant.reshaped_bytes a ds
    obtain ⟨hown, hlen⟩ : a.owner = some c ∧ ds.length = a.terms.length := by
      obtain ⟨⟨-, -, -, hown⟩, -, -, hlen, -⟩ := h
      exact ⟨hown, hlen⟩
    let q := s.plant.reshapeStarted i c (ds.map BitVec.toNat)
    have hstarts : s.plant.reshapeAccepted i (ds.map BitVec.toNat) = q :=
      Plant.reshapeAccepted_starts hst hown (by simpa using hlen) hne hsettled
    have hrestarted : s.plant.restarted a (ds.map BitVec.toNat) = { a with
        terms := terms.map fun x => { x with target := x.requested }, requestCost := s.plant.requestCostOf terms
        floor := floor, state := if rises then .rising else .falling .running
        charge := charge, commandId := a.commandId + 1, unsettled := a.terms.map Term.channel } := by
      rw [Plant.restarted, hrecord, hcharge, hrises]
    have hreply := Plant.reshapeReply_of_record (p := s.plant) (q := q) (s.plant.allot_reshapeStarted ..) rfl
    have hbytes : [byte (if rises then AllotState.rising else .falling .running).code,
        (if rises then AllotState.rising else .falling .running).outcomeByte]
        = (if rises then [3, 0xFF] else [6, 4] : List Byte) := by
      split <;> rfl
    rw [hrestarted, hbytes] at hreply
    have heng : q.eng = { s.plant.eng with
        allots := s.plant.eng.allots.set i (s.plant.restarted a (ds.map BitVec.toNat))
        committed := s.plant.eng.committed - a.charge + s.plant.reshapeCharge a (ds.map BitVec.toNat) } := rfl
    have hout : q.out = s.plant.out.command (s.plant.reshaped a (ds.map BitVec.toNat)).terms (·.requested)
        (a.commandId + 1) := rfl
    have hclients : q.clients = s.plant.clients.set c { s.plant.client c with
        claimed := (s.plant.client c).claimed + (s.plant.reshaped a (ds.map BitVec.toNat)).requestCost
          - a.requestCost } := rfl
    rw [hrestarted, hcharge] at heng
    rw [hrecord] at hout hclients
    refine ⟨_, h.accepted (fun _ hraises => ?_) hstarts hreply, rfl, heng, hout, hclients⟩
    rw [hcharge]
    exact hroom (hrises.symm.trans hraises)
  case command =>
    refine ⟨o.takeCommand x.channel (d x) id, o.leastLoaded, rfl, o.leastLoaded_least,
      fun hf => OutputStage.takeCommand_faulted hf _ _, fun hf => OutputStage.takeCommand_live hf _ _⟩
end

section
/-! Fault inputs (R96, R114 to R121): the latch of an enabled channel, and the trip of the allotment bound to it. -/

namespace Sys2Proof.Machine

/-! ### The latch (R115) -/

section Input
variable {s : State} {n : ChannelIx}

/-- The fault input of a disabled channel is not watched, and a FAULTED channel is unchanged (R96, R116). -/
theorem State.faultInput_ignored (hreset : s.inReset = false) (hlow : s.pins.faultLow[n] = false)
    (h : (s.plant.chan n).enabled = false ∨ (s.plant.chan n).state = .faulted) :
    exec (.faultInputActive n) s = .next (s.setFaultLow n true) := by
  change execFaultInputActive n s = _
  have hreset' : (s.setFaultLow n true).inReset = false := hreset
  have hkept : (s.setFaultLow n true).setPlant s.plant = s.setFaultLow n true := rfl
  simp only [execFaultInputActive, hlow, State.taking_run hreset', State.setFaultLow_plant]
  rcases h with h | h
  · simp [h]
  · simp [Plant.faultActive, h, hkept]

/-- The fault input of an enabled channel latches it, and the engine takes the report in the same event (R115). -/
theorem State.faultInput_latches (hreset : s.inReset = false) (hlow : s.pins.faultLow[n] = false)
    (henabled : (s.plant.chan n).enabled = true) (hstate : (s.plant.chan n).state ≠ .faulted) :
    exec (.faultInputActive n) s = .next { s with
      plant := (s.plant.latch n).faultReport s.lim.effective n
      pins := { s.pins with faultLow := s.pins.faultLow.set n true } } := by
  change execFaultInputActive n s = _
  have hreset' : (s.setFaultLow n true).inReset = false := hreset
  simp only [execFaultInputActive, hlow, State.taking_run hreset', State.setFaultLow_plant, henabled,
    Plant.faultActive, hstate, Bool.false_eq_true, if_false, if_true]
  rfl

end Input

theorem Plant.faultReport_unbound {p : Plant} {n : ChannelIx} (h : p.eng.binding[n] = none) (eff : Nat) :
    p.faultReport eff n = p := by
  unfold Plant.faultReport
  rw [h]

end Sys2Proof.Machine

open Sys2Proof Sys2Proof.Machine in
/-- Settles O44: the latch of an unbound channel, of which the engine takes no report, and the inputs without effect. -/
theorem faultInputLatchesAnEnabledChannel : Obligations.FaultInputLatchesAnEnabledChannel := by
  intro s n hreset c s'
  refine ⟨fun hlow henabled hstate hunbound => ?_, fun hlow h => State.faultInput_ignored hreset hlow h, rfl⟩
  have hreport : (s.plant.latch n).faultReport s.lim.effective n = s.plant.latch n :=
    Plant.faultReport_unbound (p := s.plant.latch n) hunbound _
  rw [State.faultInput_latches hreset hlow henabled hstate, hreport]
  rfl
end

section
/-! The trip of an allotment by a channel fault (R116 to R121). -/

namespace Sys2Proof.Machine

/-! ### The trip field by field -/

section Trip
variable {p : Plant} {i : SlotIx}

theorem Allotment.trippedFrom_granted {a : Allotment} (hg : a.state.granted = true) (hf : a.state ≠ .falling .free) :
    a.trippedFrom = a.cutTo .tripped := by
  unfold Allotment.trippedFrom
  split <;> simp_all [AllotState.granted, AllotState.outcome?]

theorem Plant.tripOne_granted (hg : (p.allot i).state.granted = true) (hf : (p.allot i).state ≠ .falling .free) :
    p.tripOne i = ((p.cutAllotment i).setState i .tripped).markChanged .other i := by
  unfold Plant.tripOne
  split <;> simp_all [AllotState.granted, AllotState.outcome?]

theorem Plant.tripOne_fallingFree (hf : (p.allot i).state = .falling .free) :
    p.tripOne i = ((p.cutAllotment i).markChanged .other i).freeSlot i := by
  simp [Plant.tripOne, hf]

/-- A cut allotment leaves the grant list and the wait queue, and gives its charge back (R119). -/
theorem Plant.cutAllotment_eng (p : Plant) (i : SlotIx) :
    (p.cutAllotment i).eng = { p.eng with
      allots := p.eng.allots.set i { (p.allot i).halted with charge := 0 }
      grants := p.eng.grants.filter fun h => h.slot ≠ i
      queue := p.eng.queue.filter fun h => h.slot ≠ i
      committed := p.eng.committed - (p.allot i).charge } := by
  have hallots := Plant.allots_eq_set (p.allot_cutAllotment i)
  have hcommitted := p.cutAllotment_committed i
  rw [Engine.eq_of_levels (x := (p.cutAllotment i).eng) (e := p.eng) rfl, hallots, hcommitted]
  rfl

/-- A granted allotment is TRIPPED by its trip, out of grant list and queue (R119). -/
theorem Plant.tripOne_granted_eng (hg : (p.allot i).state.granted = true) (hf : (p.allot i).state ≠ .falling .free) :
    (p.tripOne i).eng = { p.eng with
      allots := p.eng.allots.set i ((p.allot i).cutTo .tripped)
      grants := p.eng.grants.filter fun h => h.slot ≠ i
      queue := p.eng.queue.filter fun h => h.slot ≠ i
      committed := p.eng.committed - (p.allot i).charge } := by
  have hallots := Plant.allots_eq_set (p.allot_tripOne i)
  rw [Allotment.trippedFrom_granted hg hf] at hallots
  rw [← hallots, Plant.tripOne_granted hg hf]
  have hcut := p.cutAllotment_eng i
  rw [Engine.eq_of_levels (x := (((p.cutAllotment i).setState i .tripped).markChanged .other i).eng) (e := p.eng) rfl]
  simp only [Plant.markChanged_binding, Plant.markChanged_queue, Plant.markChanged_grants, Plant.markChanged_stage,
    Plant.markChanged_committed, Plant.setState_binding, Plant.setState_queue, Plant.setState_grants,
    Plant.setState_stage, Plant.setState_committed, hcut]

/-- The record that the freeing at the end of a FALLING/FREE allotment's trip finds. -/
theorem Plant.allot_cutMarked (p : Plant) (i : SlotIx) :
    ((p.cutAllotment i).markChanged .other i).allot i = { (p.allot i).halted with charge := 0, changed := true } := by
  rw [Plant.allot_markChanged, if_pos rfl, Plant.allot_cutAllotment, if_pos rfl]
  simp [Origin.spares]

/-- A FALLING/FREE allotment is freed by its trip (R120). -/
theorem Plant.tripOne_fallingFree_eng (hf : (p.allot i).state = .falling .free) :
    (p.tripOne i).eng = { p.eng with
      allots := p.eng.allots.set i (p.allot i).freed
      binding := (p.tripOne i).eng.binding
      grants := p.eng.grants.filter fun h => h.slot ≠ i
      queue := p.eng.queue.filter fun h => h.slot ≠ i
      committed := p.eng.committed - (p.allot i).charge } := by
  have htripped : (p.allot i).trippedFrom = (p.allot i).freed := by simp [Allotment.trippedFrom, hf]
  have hallots := Plant.allots_eq_set (p.allot_tripOne i)
  rw [htripped] at hallots
  rw [← hallots, Plant.tripOne_fallingFree hf]
  have hcut := p.cutAllotment_eng i
  have hlevels : (((p.cutAllotment i).markChanged .other i).freeSlot i).eng.levels = p.eng.levels := by
    simp [hcut]
  rw [Engine.eq_of_levels hlevels]
  simp only [Plant.freeSlot_queue, Plant.freeSlot_grants, Plant.freeSlot_stage, Plant.freeSlot_committed,
    Plant.markChanged_queue, Plant.markChanged_grants, Plant.markChanged_stage, Plant.markChanged_committed,
    Plant.allot_cutMarked, hcut, Nat.sub_zero]

theorem Plant.tripOne_fallingFree_binding (hf : (p.allot i).state = .falling .free) (m : ChannelIx) :
    (p.tripOne i).eng.binding[m] =
      if m ∈ (p.allot i).terms.map Term.channel then none else p.eng.binding[m] := by
  have hchannels : (p.allot i).halted.terms.map Term.channel = (p.allot i).terms.map Term.channel :=
    Allotment.halted_channels _
  rw [Plant.tripOne_fallingFree hf, Plant.binding_freeSlot, Plant.allot_cutMarked, hchannels,
    Plant.markChanged_binding, Plant.cutAllotment_eng]

theorem Plant.tripOne_fallingFree_clients (hf : (p.allot i).state = .falling .free) {c : ClientIx}
    (ho : (p.allot i).owner = some c) : (p.tripOne i).clients = p.clients.set c { p.client c with
      claimed := (p.client c).claimed - (p.allot i).requestCost } := by
  have howner : (((p.cutAllotment i).markChanged .other i).allot i).owner = some c := by
    rw [Plant.allot_cutMarked]
    exact ho
  rw [Plant.tripOne_fallingFree hf, Plant.clients_freeSlot howner, Plant.allot_cutMarked]
  rfl

/-- A WAITING or STAGED allotment holds no output: its record is TRIPPED as it stands (R118). -/
theorem Plant.tripOne_entry_allots (hs : (p.allot i).state = .waiting ∨ (p.allot i).state = .staged) :
    (p.tripOne i).eng.allots = p.eng.allots.set i { p.allot i with state := .tripped, changed := true } := by
  have htripped : (p.allot i).trippedFrom = { p.allot i with state := .tripped, changed := true } := by
    rcases hs with hs | hs <;> simp [Allotment.trippedFrom, hs]
  rw [Plant.allots_eq_set (p.allot_tripOne i), htripped]

theorem Plant.tripOne_granted_clients (hg : (p.allot i).state.granted = true)
    (hf : (p.allot i).state ≠ .falling .free) : (p.tripOne i).clients = p.clients := by
  rw [Plant.tripOne_granted hg hf]
  rfl

end Trip

/-! ### What a fault does to the channels (R72, R109, R115) -/

section Cut
variable {p : Plant} {n : ChannelIx} {ns : List ChannelIx}

/-- The latch of one of the channels of a cut: its own report is among those the cut discards. -/
theorem Plant.latch_cut_frame (hn : n ∈ ns) :
    (p.latch n).out.cut ns = { p.out with
      channels := ((p.latch n).out.cut ns).channels
      reports := p.out.reports.filter fun r => r.channel ∉ ns } := by
  have hreports : ((p.latch n).out.cut ns).reports = p.out.reports.filter fun r => r.channel ∉ ns := by
    rw [OutputStage.reports_cut]
    change (p.out.reports.filter fun r => r.channel ≠ n).filter _ = _
    rw [List.filter_filter]
    refine List.filter_congr fun r _ => ?_
    by_cases hr : r.channel = n <;> simp [hr, hn]
  rw [← hreports]
  exact (p.latch n).out.cut_frame ns

/-- A FAULTED channel takes no cut (R109). -/
theorem Channel.cut_latched (c : Channel) : c.latched.cut = c.latched := rfl

theorem Plant.latch_cut_channels (hn : n ∈ ns) (m : ChannelIx) :
    ((p.latch n).out.cut ns).channels[m] =
      if m = n then (p.chan n).latched else if m ∈ ns then (p.chan m).cut else p.chan m := by
  rw [OutputStage.channels_cut]
  change (if m ∈ ns then ((p.latch n).chan m).cut else (p.latch n).chan m) = _
  rw [Plant.chan_latch]
  by_cases hm : m = n
  · subst hm
    simp [hn, Channel.cut_latched]
  · simp [hm]

end Cut

/-! ### The report of a fault (R116, R121) -/

section Report
variable {p : Plant} {n : ChannelIx} {i : SlotIx} {eff : Nat}

/-- A fault of a channel of an allotment trips it. Where it had an output, the stage resolves or a pass runs; where it
was STAGED a pass runs (R116, R118, R121). -/
theorem Plant.faultReport_bound (hb : p.eng.binding[n] = some (p.handleOf i)) :
    p.faultReport eff n =
      if (p.allot i).state.granted = true then
        (p.tripOne i).settleStage eff (decide ((p.tripOne i).eng.committed < p.eng.committed))
      else if (p.allot i).state = .staged then (p.tripOne i).passIf eff .other true
      else p.tripOne i := by
  have hslot : (p.handleOf i).slot = i := rfl
  unfold Plant.faultReport
  rw [hb]
  simp only [hslot]
  split <;> simp_all [AllotState.granted, AllotState.outcome?]

theorem Plant.faultReport_waiting (hb : p.eng.binding[n] = some (p.handleOf i)) (hs : (p.allot i).state = .waiting) :
    p.faultReport eff n = { p with eng := { p.eng with
      allots := p.eng.allots.set i { p.allot i with state := .tripped, changed := true }
      queue := p.eng.queue.filter fun h => h.slot ≠ i } } := by
  have htrip : p.tripOne i = ((p.leaveQueue i).setState i .tripped).markChanged .other i := by simp [Plant.tripOne, hs]
  rw [Plant.faultReport_bound hb, hs, if_neg (by decide), if_neg (by decide), ← Plant.tripOne_entry_allots (.inl hs),
    htrip]
  rfl

/-- The trip of the STAGED allotment empties the stage, and the pass walks the queue (R118). -/
theorem Plant.faultReport_staged (hb : p.eng.binding[n] = some (p.handleOf i)) (hs : (p.allot i).state = .staged) :
    p.faultReport eff n = passWalk eff .other p.eng.queue { p with eng := { p.eng with
      allots := p.eng.allots.set i { p.allot i with state := .tripped, changed := true }, stage := none } } := by
  have htrip : p.tripOne i = ((p.setStage none).setState i .tripped).markChanged .other i := by simp [Plant.tripOne, hs]
  rw [Plant.faultReport_bound hb, hs, if_neg (by decide), if_pos rfl, ← Plant.tripOne_entry_allots (.inr hs), htrip]
  rfl

theorem Plant.faultReport_tripped (hb : p.eng.binding[n] = some (p.handleOf i)) (hs : (p.allot i).state = .tripped) :
    p.faultReport eff n = p := by
  rw [Plant.faultReport_bound hb, hs, if_neg (by decide), if_neg (by decide)]
  simp [Plant.tripOne, hs]

end Report

end Sys2Proof.Machine

open Sys2Proof Sys2Proof.Machine in
/-- Settles O45: the latch, then the trip by the state it finds; what follows the trip of an allotment with an output is
settled by the stage and by what was given back. -/
theorem faultTripsTheAllotmentAtOnce : Obligations.FaultTripsTheAllotmentAtOnce := by
  intro s n i hreset hlow henabled hstate hbind hnames a e latch latched tripped becomes isCut follows
  let r := s.plant.latch n
  have hbind' : r.eng.binding[n] = some (r.handleOf i) := hbind
  have hexec := State.faultInput_latches hreset hlow henabled hstate
  have hexec' {p : Plant} (h : r.faultReport s.lim.effective n = p) : becomes p := by
    rw [← h]
    exact hexec
  have hcut (hg : a.state.granted = true) : isCut (r.tripOne i) := by
    have hout : (r.tripOne i).out = (s.plant.latch n).out.cut (a.terms.map Term.channel) := Plant.out_tripOne hg
    have hchan (m : ChannelIx) := Plant.latch_cut_channels (p := s.plant) hnames m
    rw [← hout] at hchan
    refine ⟨?out, (hchan n).trans (if_pos rfl), 
      fun m hm hin => (hchan m).trans ((if_neg hm).trans ((if_pos hin).trans rfl)),
      fun m hm => (hchan m).trans ?other⟩
    case out =>
      rw [hout]
      exact Plant.latch_cut_frame hnames
    case other =>
      have hne : m ≠ n := fun h => hm (h ▸ hnames)
      rw [if_neg hne]
      exact if_neg hm
  have hfollows (hg : a.state.granted = true) (hcommitted : (r.tripOne i).eng.committed = e.committed - a.charge) :
      follows (r.tripOne i) := by
    have hnext := hexec' ((Plant.faultReport_bound hbind').trans (if_pos hg))
    have hstage : (r.tripOne i).eng.stage = e.stage :=
      (r.tripOne_stage i).trans (if_neg (AllotState.ne_staged_of_granted hg))
    have hothers (j : SlotIx) (hj : j ≠ i) : (r.tripOne i).allot j = s.plant.allot j :=
      (r.allot_tripOne i j).trans (if_neg hj)
    refine ⟨hnext, fun hw => ?waits, fun hempty hzero => ?nothing, fun hempty hlt => ?pass⟩
    case waits => rwa [Plant.settleStage_bystander _ _ hw hstage hothers] at hnext
    case nothing =>
      have hsame : ¬(r.tripOne i).eng.committed < r.eng.committed := by
        rw [hcommitted, hzero]
        exact Nat.lt_irrefl _
      rwa [Plant.settleStage_empty _ _ (hstage.trans hempty), decide_eq_false hsame] at hnext
    case pass =>
      have hless : (r.tripOne i).eng.committed < r.eng.committed := hlt
      rwa [Plant.settleStage_empty _ _ (hstage.trans hempty), decide_eq_true hless] at hnext
  refine ⟨fun hg hf => ?granted, fun hs => hexec' (Plant.faultReport_waiting hbind' hs),
    fun hs => hexec' (Plant.faultReport_staged hbind' hs), fun hf c hc => ?fallingFree,
    fun hs => hexec' (Plant.faultReport_tripped hbind' hs)⟩
  case granted =>
    have heng := Plant.tripOne_granted_eng (p := r) hg hf
    exact ⟨r.tripOne i, hcut hg, hfollows hg (congrArg Engine.committed heng),
      Plant.tripOne_granted_clients (p := r) hg hf, heng⟩
  case fallingFree =>
    have hg : a.state.granted = true := by rw [hf]; rfl
    have heng := Plant.tripOne_fallingFree_eng (p := r) hf
    exact ⟨r.tripOne i, hcut hg, hfollows hg (congrArg Engine.committed heng),
      Plant.tripOne_fallingFree_clients (p := r) hf hc, heng, Plant.tripOne_fallingFree_binding (p := r) hf⟩
end

section
/-! The settled reports of a rise (R72, R73), and those that the engine discards. -/

namespace Sys2Proof.Machine

/-- A report that fails the test of R72, or of an unbound channel, is discarded. -/
theorem Plant.takeReport_discards {p : Plant} {r : Report} (eff : Nat)
    (h : ∀ x, p.eng.binding[r.channel] = some x → (p.allot x.slot).takesReport r = false) : p.takeReport eff r = p := by
  unfold Plant.takeReport
  split
  next => rfl
  next x hx => simp [h x hx]

/-- With channels still unsettled a report takes its channel out of the unsettled set, and nothing more (R72). -/
theorem Plant.takeReport_notes {p : Plant} {i : SlotIx} {r : Report} (eff : Nat)
    (hbinding : p.eng.binding[r.channel] = some (p.handleOf i)) (htakes : (p.allot i).takesReport r = true)
    (hmore : (p.allot i).unsettled.erase r.channel ≠ []) : p.takeReport eff r = p.noteSettled i r.channel := by
  unfold Plant.takeReport
  rw [hbinding]
  exact (if_pos htakes).trans (if_neg hmore)

theorem Plant.settle_rising {p : Plant} {i : SlotIx} (eff : Nat) (hst : (p.allot i).state = .rising) :
    p.settle eff i = (p.endRise i).passIf eff .other (decide ((p.endRise i).eng.committed < p.eng.committed)) := by
  rw [Plant.settle, hst]
  rfl

/-- The end of a rise is that of a fall to RUNNING (R73, R74), which writes the record and the committed charge. -/
theorem Plant.endRise_noteSettled {p : Plant} {n : ChannelIx} {i : SlotIx} (hu : (p.allot i).unsettled = [n]) :
    ((p.withoutReport n).noteSettled i n).endRise i = { p.withoutReport n with eng := { p.eng with
      allots := p.eng.allots.set i { p.allot i with
        unsettled := [], state := .running, charge := (p.allot i).requestCost, changed := true }
      committed := p.eng.committed - (p.allot i).charge + (p.allot i).requestCost } } :=
  Plant.fallEnds_eq hu (o := .running) (by decide)

theorem Allotment.takesReport_iff {a : Allotment} {r : Report} :
    a.takesReport r = true ↔ (a.state = .rising ∨ a.state.outcome?.isSome = true) ∧ r.channel ∈ a.unsettled
      ∧ r.command = some a.commandId := by
  simp [Allotment.takesReport, and_assoc]

end Sys2Proof.Machine

open Sys2Proof Sys2Proof.Machine in
/-- Settles O49: the last report of a rise with its pass, one that leaves channels unsettled, and those discarded. -/
theorem settledReportOfARiseEndsInRunning : Obligations.SettledReportOfARiseEndsInRunning := by
  intro s n i r hreset hreport a out
  obtain rfl : r.channel = n := by simpa using List.find?_some hreport
  have hexec := State.settledReport_takes hreset hreport
  refine ⟨fun hbinding hst hcommand hu => ?last, fun hbinding hst hcommand hmem hmore => hexec.trans ?more,
    fun h => hexec.trans ?discarded⟩
  case last =>
    intro p
    refine hexec.trans ?_
    have htakes : a.takesReport r = true := Allotment.takesReport_iff.mpr ⟨.inl hst, by simp [hu], hcommand⟩
    have hlast : a.unsettled.erase r.channel = [] := by simp [hu]
    have hrising : (((s.plant.withoutReport r.channel).noteSettled i r.channel).allot i).state = .rising := by
      rw [Plant.allot_noteSettled hu, if_pos rfl]
      exact hst
    have hend := Plant.endRise_noteSettled hu
    rw [Plant.takeReport_last (p := s.plant.withoutReport r.channel) _ hbinding htakes hlast,
      Plant.settle_rising _ hrising, hend, Plant.passIf_eq]
    simp only [decide_eq_true_eq]
    rfl
  case more =>
    have htakes : a.takesReport r = true := Allotment.takesReport_iff.mpr ⟨hst, hmem, hcommand⟩
    rw [Plant.takeReport_notes (p := s.plant.withoutReport r.channel) _ hbinding htakes hmore]
    rfl
  case discarded =>
    have hfails (x : Handle) (hx : s.plant.eng.binding[r.channel] = some x) :
        (s.plant.allot x.slot).takesReport r = false := by
      rcases h with hnone | ⟨hsome, hother⟩
      · rw [hnone] at hx
        cases hx
      · obtain rfl : s.plant.handleOf i = x := Option.some.inj (hsome.symm.trans hx)
        rw [Bool.eq_false_iff, ne_eq, Allotment.takesReport_iff]
        rintro ⟨hmoving, -, hcommand⟩
        rcases hother with hne | ⟨hrising, hfalling⟩
        · exact hne hcommand
        · rcases hmoving with hst | hst
          · exact hrising hst
          · have hnone : (s.plant.allot i).state.outcome? = none := hfalling
            simp [Plant.handleOf, hnone] at hst
    rw [Plant.takeReport_discards (p := s.plant.withoutReport r.channel) _ hfails]
    rfl
end

section
/-! Run timers (R76 to R78): a counting tenth, and the end of a grant whose run limit expires. -/

namespace Sys2Proof.Machine

theorem AllotState.runs_iff {st : AllotState} : st.runs = true ↔ st = .rising ∨ st = .running ∨ st = .reduced := by
  simp [AllotState.runs, or_assoc]

section Expiry
variable {p : Plant} {i : SlotIx} {r : RunTimer} {c : ClientIx}

/-- The plant after the run-limit expiry of slot `i`, which client `c` owns, without its pass (R78). -/
def Plant.runEnded (p : Plant) (i : SlotIx) (c : ClientIx) (r : RunTimer) : Plant :=
  let a := p.allot i
  let charge := p.transitionCharge a.terms fun _ => 0
  { eng := { p.eng with
      allots := p.eng.allots.set i { a with
        terms := a.terms.map fun x => { x with target := 0 }, state := .falling .free, charge := charge, changed := true
        run := some { r with remaining := 0, counted := 0 }
        commandId := a.commandId + 1, unsettled := a.terms.map Term.channel }
      queue := p.eng.queue.filter fun h => h.slot ≠ i
      committed := p.eng.committed - a.charge + charge }
    out := p.out.command a.terms (fun _ => 0) (a.commandId + 1)
    clients := p.clients.set c { p.client c with retired := min 255 ((p.client c).retired + 1) } }

theorem Plant.clients_retire (ho : (p.allot i).owner = some c) :
    (p.retire i).clients = p.clients.set c { p.client c with retired := min 255 ((p.client c).retired + 1) } := by
  simp [Plant.retire, ho, Plant.setClient, Plant.client, Config.maxRetired]

theorem Plant.expired_eq (hr : (p.allot i).run = some r) (ho : (p.allot i).owner = some c) :
    p.expired i = p.runEnded i c r := by
  let a := p.allot i
  let q := (p.setAllot i { a with run := a.run.map fun r => { r with remaining := 0, counted := 0 } }).leaveQueue i
  have hq : q.allot i = { a with run := a.run.map fun r => { r with remaining := 0, counted := 0 } } := by
    simp [q]
  have hfall : p.expired i = ((q.fallToFree i).markChanged .other i).retire i := rfl
  have hstate : p.transitionState a.terms (fun _ => 0) (some .free) = .falling .free :=
    Plant.transitionState_of_le _ fun _ _ => Nat.zero_le _
  have hallots : (p.expired i).eng.allots = (p.runEnded i c r).eng.allots := by
    rw [Plant.allots_eq_set (p.allot_expired i), hr]
    simp only [Plant.inMotion, Plant.inTransition, a, hstate]
    rfl
  have hcommitted : (q.fallToFree i).eng.committed = (p.runEnded i c r).eng.committed := by
    rw [Plant.fallToFree, Plant.startTransition_committed, hq]
    rfl
  have howner : (((q.fallToFree i).markChanged .other i).allot i).owner = some c := by
    rw [Plant.markChanged_other, Plant.allot_setAllot_self, Plant.fallToFree, Plant.allot_startTransition, if_pos rfl,
      hq]
    exact ho
  have hclients : (p.expired i).clients = (p.runEnded i c r).clients := by
    rw [hfall, Plant.clients_retire howner]
    rfl
  have hout : (p.expired i).out = (p.runEnded i c r).out := by
    rw [hfall, Plant.retire_out, Plant.markChanged_out, Plant.fallToFree, Plant.startTransition_out, hq]
    rfl
  rw [hfall] at hallots hclients hout ⊢
  refine Plant.eq_of_parts hallots ?binding ?queue ?grants ?stage ?committed ?levels hout hclients
  all_goals rw [Plant.retire_eng]
  case committed => exact hcommitted
  all_goals rfl

/-- The pass of an expiry runs where the committed charge fell with the stage empty (R52, R78). -/
theorem Plant.expireRun_eq (hr : (p.allot i).run = some r) (ho : (p.allot i).owner = some c) (eff : Nat) :
    let q := p.runEnded i c r
    p.expireRun eff i =
      if p.eng.stage = none ∧ q.eng.committed < p.eng.committed then passWalk eff .other q.eng.queue q else q := by
  intro q
  have hpass : p.expireRun eff i
      = (p.expired i).passIf eff .other (decide ((p.expired i).eng.committed < p.eng.committed)) := rfl
  rw [hpass, Plant.expired_eq hr ho, Plant.passIf_eq]
  simp only [decide_eq_true_eq]
  rfl

/-! ### One tenth (R76) -/

theorem Plant.runTenth_counts (hr : (p.allot i).run = some r) (hs : (p.allot i).state.runs = true)
    (h : 2 ≤ r.remaining) (eff : Nat) :
    p.runTenth eff i =
      p.setAllot i { p.allot i with run := some { r with remaining := r.remaining - 1, counted := 0 } } := by
  have hmore : ¬r.remaining ≤ 1 := by omega
  simp [Plant.runTenth, hr, hs, hmore]

theorem Plant.runTenth_expires (hr : (p.allot i).run = some r) (hs : (p.allot i).state.runs = true)
    (h : r.remaining ≤ 1) (eff : Nat) : p.runTenth eff i = p.expireRun eff i := by
  simp [Plant.runTenth, hr, hs, h]

theorem Plant.runTenth_paused (hr : (p.allot i).run = some r) (hs : (p.allot i).state.runs = false) (eff : Nat) :
    p.runTenth eff i = p := by
  simp [Plant.runTenth, hr, hs]

end Expiry

theorem State.runTimerTenth_taken {s : State} (hreset : s.inReset = false) (i : SlotIx) :
    exec (.runTimerTenth i) s = .next (s.setPlant (s.plant.runTenth s.lim.effective i)) :=
  State.taking_run hreset fun s => s.setPlant (s.plant.runTenth s.lim.effective i)

theorem State.runLimitExpiry_taken {s : State} (hreset : s.inReset = false) {i : SlotIx}
    (hr : (s.plant.allot i).run.isSome = true) :
    exec (.runLimitExpiry i) s = .next
      (if (s.plant.allot i).state.runs = true then s.setPlant (s.plant.expireRun s.lim.effective i) else s) := by
  refine (State.taking_run hreset _).trans ?_
  rw [hr, Bool.true_and]

end Sys2Proof.Machine

open Sys2Proof Sys2Proof.Machine in
/-- Settles O51: a tenth that counts, a timer that is paused, and the expiry by either command with its pass. -/
theorem runLimitCountsDownAndEndsTheGrant : Obligations.RunLimitCountsDownAndEndsTheGrant := by
  intro s i r hreset hr a counting
  have hsome : (s.plant.allot i).run.isSome = true := by rw [hr]; rfl
  have htenth := State.runTimerTenth_taken hreset i
  have hexpiry := State.runLimitExpiry_taken hreset hsome
  refine ⟨fun hcounts hmore => htenth.trans ?counts, fun hpaused => ⟨htenth.trans ?tenth, hexpiry.trans ?expiry⟩,
    fun c hcounts ho cmd hcmd => ?ends⟩
  case counts =>
    rw [Plant.runTenth_counts hr (AllotState.runs_iff.mpr hcounts) hmore]
    rfl
  case tenth =>
    have hstill : (s.plant.allot i).state.runs = false :=
      Bool.eq_false_iff.mpr fun h => hpaused (AllotState.runs_iff.mp h)
    rw [Plant.runTenth_paused hr hstill]
    rfl
  case expiry => rw [if_neg fun h => hpaused (AllotState.runs_iff.mp h)]
  case ends =>
    intro p
    have hruns := AllotState.runs_iff.mpr hcounts
    have hexec : exec cmd s = .next (s.setPlant (s.plant.expireRun s.lim.effective i)) := by
      rcases hcmd with rfl | ⟨rfl, hlast⟩
      · exact hexpiry.trans (by rw [if_pos hruns])
      · exact htenth.trans (by rw [Plant.runTenth_expires hr hruns hlast])
    rw [hexec, Plant.expireRun_eq hr ho]
    rfl
end

section
/-! What a client holds after its client release (R94, R130), whatever the pass of the same event does. -/

namespace Sys2Proof.Machine

/-- A pass moves no owner (R7). -/
theorem Plant.PassChain.owner {eff : Nat} {o : Origin} {p q : Plant} (h : Plant.PassChain eff o p q) (j : SlotIx) :
    (q.allot j).owner = (p.allot j).owner := by
  induction h with
  | refl => rfl
  | tail _ hact ih =>
    rw [← ih]
    cases hact with
    | topUp i => rw [Plant.allot_topUp]; split <;> simp_all [Plant.inTransition]
    | grant i => rw [Plant.allot_grant, Plant.allot_topUp]; split <;> simp_all [Plant.inTransition]
    | reduce i => rw [Plant.allot_reduceVictim]; split <;> simp_all [Plant.inTransition]
    | shed i => rw [Plant.allot_shedVictim]; split <;> simp_all [Plant.inTransition]
    | stage i => rw [Plant.allot_stageEntry]; split <;> simp_all [Allotment.halted]

/-- A release leaves an allotment FREE or FALLING/FREE (R87 to R90). -/
theorem Plant.releasedRecord_state (p : Plant) (lapse : Bool) (a : Allotment) :
    (p.releasedRecord lapse a).state = .free ∨ (p.releasedRecord lapse a).state = .falling .free := by
  rcases a.state.release_cases with h | h | h
  · rwa [Plant.releasedRecord_still h]
  · rw [Plant.releasedRecord_idle h]
    exact .inl rfl
  · rw [Plant.releasedRecord_driven h]
    exact .inr rfl

/-- After a client release what the client still owns falls to FREE, since the pass acts on neither a FREE nor a
FALLING/FREE allotment and moves no owner (R94, R130). -/
theorem Plant.clientRelease_leaves {p : Plant} {c : ClientIx} {lapse : Bool} {eff : Nat} {j : SlotIx}
    (hne : ((p.clientRelease eff (releaseOrigin c lapse) lapse c).allot j).state ≠ .free)
    (hown : ((p.clientRelease eff (releaseOrigin c lapse) lapse c).allot j).owner = some c) :
    ((p.clientRelease eff (releaseOrigin c lapse) lapse c).allot j).state = .falling .free := by
  have hrel := (p.releaseClient_releases c lapse).allots j
  let q := p.releaseClient (releaseOrigin c lapse) lapse c
  let t := releaseTrigger p q
  have hchain : Plant.PassChain eff (releaseOrigin c lapse) q (p.clientRelease eff (releaseOrigin c lapse) lapse c) :=
    q.passIf_chain eff _ t
  have hfree (h : (q.allot j).state = .free) : False := hne (by rw [hchain.allot_free h, h])
  by_cases hj : j ∈ p.ownedBy c
  · rw [if_pos hj] at hrel
    have hst : (q.allot j).state = .free ∨ (q.allot j).state = .falling .free := by
      rw [hrel]
      exact p.releasedRecord_state lapse _
    have hfalls := hst.resolve_left hfree
    have hstays : (p.clientRelease eff (releaseOrigin c lapse) lapse c).allot j = q.allot j :=
      Plant.passIf_allot_bystander (by rw [hfalls]; rfl) eff _ t
    rw [hstays, hfalls]
  · rw [if_neg hj] at hrel
    have howner : (p.allot j).owner = some c := by rw [← hrel, ← hchain.owner j, hown]
    exact absurd (Plant.mem_ownedBy.mpr ⟨fun h => hfree (by rw [hrel, h]), howner⟩) hj

end Sys2Proof.Machine

open Sys2Proof Sys2Proof.Machine in
/-- Settles O35: each of the three rows writes the client's record over the plant of one client release. -/
theorem clientReleaseLeavesOnlyFallsToFree : Obligations.ClientReleaseLeavesOnlyFallsToFree := by
  intro s t c i hreset hact hexec
  have hallot : ∃ lapse, t.plant.allot i
      = (s.plant.clientRelease s.lim.effective (releaseOrigin c lapse) lapse c).allot i := by
    have hunset : (s.plant.client c).state ≠ .unset := by simp [hact]
    rcases hexec with h | h | ⟨htimer, h⟩
    · have hleave : exec (.leave (.client c) []) s = _ := State.request_client hreset .leave [] c hunset leave
      simp only [leave, State.notActive_present (State.present_client hact)] at hleave
      rw [hleave] at h
      cases h
      exact ⟨false, rfl⟩
    · have hjoin : exec (.join (.client c) []) s = _ := State.request_client hreset .join [] c hunset join
      simp only [join, Plant.joined, hact] at hjoin
      rw [hjoin] at h
      cases h
      exact ⟨false, rfl⟩
    · have hlapse : exec (.windowExpiry c) s = _ := State.taking_run hreset _
      rw [if_pos ⟨hact, htimer⟩] at hlapse
      rw [hlapse] at h
      cases h
      exact ⟨true, rfl⟩
  obtain ⟨lapse, hallot⟩ := hallot
  rw [hallot]
  exact Plant.clientRelease_leaves
end

section
/-! HALT (R170 to R172): what the freeing of every allotment, the cut of every channel and the return to SETUP leave. -/

namespace Sys2Proof.Machine

/-! ### One allotment (R170) -/

section One
variable (p : Plant) (i : SlotIx)

/-- The plant that the freeing of slot `i` finds: with the retire report, unless its fall has given one (R16, R170). -/
def Plant.haltReported : Plant := if (p.allot i).state = .falling .free then p else p.retire i

theorem Plant.haltReported_frame :
    (p.haltReported i).eng = p.eng ∧ (p.haltReported i).out = p.out
      ∧ ∀ j, (p.haltReported i).allot j = p.allot j := by
  unfold Plant.haltReported
  split <;> simp

theorem Plant.haltOne_eq : p.haltOne i = (p.haltReported i).freeSlot i := rfl

theorem Plant.allot_haltOne (j : SlotIx) :
    (p.haltOne i).allot j = if j = i then (p.allot i).freed else p.allot j := by
  obtain ⟨-, -, ha⟩ := p.haltReported_frame i
  rw [Plant.haltOne_eq, Plant.allot_freeSlot, ha, ha]

theorem Plant.binding_haltOne (n : ChannelIx) :
    (p.haltOne i).eng.binding[n] = if n ∈ (p.allot i).terms.map Term.channel then none else p.eng.binding[n] := by
  obtain ⟨he, -, ha⟩ := p.haltReported_frame i
  rw [Plant.haltOne_eq, Plant.binding_freeSlot, ha, he]

theorem Plant.levels_haltOne : (p.haltOne i).eng.levels = p.eng.levels := by
  obtain ⟨he, -⟩ := p.haltReported_frame i
  rw [Plant.haltOne_eq, Plant.freeSlot_levels, he]

theorem Plant.out_haltOne : (p.haltOne i).out = p.out := by
  obtain ⟨-, -, -, -, -, hout⟩ := (p.haltReported i).freeSlot_frame i
  obtain ⟨-, hreported, -⟩ := p.haltReported_frame i
  rw [Plant.haltOne_eq, hout, hreported]

/-- The owner's claimed total falls by the request cost, and its retired count rises unless the allotment was
FALLING/FREE (R16, R136, R140). -/
theorem Plant.client_haltOne (d : ClientIx) :
    (p.haltOne i).client d = { p.client d with
      claimed := (p.client d).claimed - (if (p.allot i).owner = some d then (p.allot i).requestCost else 0)
      retired := if (p.allot i).owner = some d ∧ (p.allot i).state ≠ .falling .free then
        min 255 ((p.client d).retired + 1) else (p.client d).retired } := by
  obtain ⟨-, -, ha⟩ := p.haltReported_frame i
  rw [Plant.haltOne_eq, Plant.client_freeSlot, ha, Plant.haltReported]
  by_cases hf : (p.allot i).state = .falling .free
  · simp [hf]
  · simp [hf, Plant.client_retire]

end One

/-! ### Every allotment (R170) -/

/-- The slots among `l` whose allotments client `d` owns. -/
def Plant.ownedAmong (p : Plant) (l : List SlotIx) (d : ClientIx) : List SlotIx :=
  l.filter fun i => (p.allot i).owner = some d

/-- Those of them that are not FALLING/FREE, which HALT retires (R170). -/
def Plant.retiredAmong (p : Plant) (l : List SlotIx) (d : ClientIx) : List SlotIx :=
  (p.ownedAmong l d).filter fun i => (p.allot i).state ≠ .falling .free

/-- What HALT's work on the allotments in the slots `l` leaves of the plant `p`. -/
structure Plant.HaltsAll (p q : Plant) (l : List SlotIx) : Prop where
  allots : ∀ j, q.allot j = if j ∈ l then (p.allot j).freed else p.allot j
  binding : ∀ n : ChannelIx, q.eng.binding[n] =
    if ∃ i ∈ l, n ∈ (p.allot i).terms.map Term.channel then none else p.eng.binding[n]
  levels : q.eng.levels = p.eng.levels
  out : q.out = p.out
  clients : ∀ d, q.client d = { p.client d with
    claimed := (p.client d).claimed - ((p.ownedAmong l d).map fun i => (p.allot i).requestCost).sum
    retired := retiredAfter true (p.client d).retired (p.retiredAmong l d).length }

/-- HALT's work on distinct slots finds each record as it was before the first. -/
theorem Plant.haltsAll (p : Plant) (l : List SlotIx) (hn : l.Nodup) : p.HaltsAll (l.foldl Plant.haltOne p) l := by
  induction l using List.reverseRecOn with
  | nil => exact ⟨by simp, by simp, rfl, rfl, fun d => by simp [Plant.ownedAmong, Plant.retiredAmong, retiredAfter]⟩
  | append_singleton l v ih =>
    rw [List.nodup_append] at hn
    obtain ⟨hl, -, hne⟩ := hn
    have hv : v ∉ l := fun h => hne _ h _ (by simp) rfl
    have h := ih hl
    rw [List.foldl_append]
    simp only [List.foldl_cons, List.foldl_nil]
    generalize l.foldl Plant.haltOne p = r at h
    have hr : r.allot v = p.allot v := by rw [h.allots, if_neg hv]
    refine ⟨fun j => ?allots, fun n => ?binding, (r.levels_haltOne v).trans h.levels, (r.out_haltOne v).trans h.out,
      fun d => ?clients⟩
    case allots =>
      rw [Plant.allot_haltOne, hr, h.allots]
      by_cases hj : j = v
      · subst hj; simp
      · simp [hj]
    case binding =>
      rw [Plant.binding_haltOne, hr, h.binding]
      simp only [List.mem_append, List.mem_singleton, or_and_right, exists_or, exists_eq_left]
      by_cases hb : n ∈ (p.allot v).terms.map Term.channel
      · simp only [hb, or_true, if_true]
      · simp only [hb, or_false, if_false]
    case clients =>
      rw [Plant.client_haltOne, hr, h.clients]
      by_cases ho : (p.allot v).owner = some d
      · by_cases hf : (p.allot v).state = .falling .free
        · simp [Plant.ownedAmong, Plant.retiredAmong, ho, hf, Nat.sub_sub]
        · simp [Plant.ownedAmong, Plant.retiredAmong, ho, hf, Nat.sub_sub, retiredAfter_succ]
      · simp [Plant.ownedAmong, Plant.retiredAmong, ho]

/-! ### The halted plant (R170 to R172) -/

theorem Plant.haltFreed_halts (p : Plant) : p.HaltsAll p.haltFreed p.inUse :=
  p.haltsAll _ ((List.nodup_finRange 32).filter _)

theorem Plant.ownedAmong_inUse (p : Plant) (d : ClientIx) : p.ownedAmong p.inUse d = p.ownedBy d := by
  rw [Plant.ownedAmong, Plant.inUse, Plant.ownedBy, List.filter_filter]
  refine List.filter_congr fun i _ => ?_
  rw [Bool.and_comm, Bool.decide_and]

/-- Every slot HALT frees takes the next generation, and a FREE slot stays as it was (R2, R5, R170). -/
theorem Plant.allot_halt {p : Plant} (hfree : p.freeRecordsClear) (i : SlotIx) :
    p.halt.allot i = { (p.allot i).asFree with
      generation := (p.allot i).generation + if (p.allot i).state = .free then 0 else 1 } := by
  have hallot : p.halt.allot i = if i ∈ p.inUse then (p.allot i).freed else p.allot i := p.haltFreed_halts.allots i
  rw [hallot]
  by_cases hf : (p.allot i).state = .free
  · rw [if_neg fun h => Plant.mem_inUse.mp h hf, if_pos hf]
    exact (hfree i hf).trans (by simp [Allotment.asFree])
  · rw [if_pos (Plant.mem_inUse.mpr hf), if_neg hf]
    rfl

/-- HALT cuts every channel, and no report of any is left (R109, R172). -/
theorem Plant.out_halt (p : Plant) :
    p.halt.out = { p.out with channels := p.halt.out.channels, reports := [] }
      ∧ ∀ n, p.halt.chan n = (p.chan n).cut := by
  have hout : p.halt.out = p.out.cut allChannels := congrArg (OutputStage.cut · allChannels) p.haltFreed_halts.out
  have hall (n : ChannelIx) : n ∈ allChannels := List.mem_finRange n
  have hnone : (p.out.cut allChannels).reports = [] := by
    rw [OutputStage.reports_cut]
    simp [hall]
  refine ⟨?_, fun n => ?_⟩
  · rw [hout, ← hnone]
    exact p.out.cut_frame allChannels
  · rw [Plant.chan, hout, OutputStage.channels_cut, if_pos (hall n)]
    rfl

/-- A channel that has been cut stands in no phase slot (R112). -/
theorem Channel.cut_phase {c : Channel} (h : c.shaped) : c.cut.phase = none := by
  obtain ⟨-, hoff, -, -, -, hfaulted⟩ := h
  match hs : c.state with
  | .off => simp [Channel.cut, hs, hoff hs]
  | .faulted => simp [Channel.cut, hs, hfaulted hs]
  | .rise | .on | .fall => simp [Channel.cut, hs, Channel.cleared]

theorem OutputStage.load_zero {o : OutputStage} {k : PhaseIx} (h : ∀ n : ChannelIx, o.channels[n].phase = none) :
    o.load k = 0 := by
  have hnone : (allChannels.filter fun n => o.channels[n].phase = some k) = [] :=
    List.filter_eq_nil_iff.mpr fun n _ => by rw [h n]; simp
  rw [OutputStage.load, hnone]
  rfl

/-- Every claimed total ends at 0, and every owner's retired count rises by its allotments that HALT retires (R136,
R140, R170). -/
theorem Plant.client_halt {p : Plant} (hclaimed : p.claimedLaw) (d : ClientIx) :
    let retired := (p.ownedBy d).filter fun i => (p.allot i).state ≠ .falling .free
    p.halt.client d = { p.client d with
      claimed := 0
      retired := if retired = [] then (p.client d).retired
        else min 255 ((p.client d).retired + retired.length) } := by
  intro retired
  obtain ⟨-, hsum⟩ := hclaimed
  have hclient : p.halt.client d = _ := p.haltFreed_halts.clients d
  have hretired : p.retiredAmong p.inUse d = retired := by
    rw [Plant.retiredAmong, Plant.ownedAmong_inUse]
  have hzero : (p.client d).claimed - ((p.ownedBy d).map fun i => (p.allot i).requestCost).sum = 0 := by
    rw [hsum d]
    exact Nat.sub_self _
  rw [hclient, hretired, Plant.ownedAmong_inUse, hzero, retiredAfter]
  by_cases hnil : retired = []
  · simp [hnil]
  · simp [hnil, List.length_pos_iff.mpr hnil]

/-- HALT from the supervisor, in RUN and without a payload (R170, R171). -/
theorem halt_ok {s : State} (hrun : s.ctl.part = .run) :
    halt .supervisor [] s = (s.halted, .okWith [s.halted.ctl.part.code, byte s.plant.inUse.length,
      byte s.plant.haltRetired]) := by
  simp [halt, hrun]

end Sys2Proof.Machine

open Sys2Proof Sys2Proof.Machine in
/-- Settles O53: the refusals in order; then the halted plant by its records, bindings, channels and clients. -/
theorem haltFreesEverythingAndReturnsToSetup : Obligations.HaltFreesEverythingAndReturnsToSetup := by
  intro s hreset refused
  have hrefused {p : List Byte} {st : Status} (h : halt .supervisor p s = s.refuse st) : refused .supervisor p st :=
    State.request_refused hreset (fun d hd => by cases hd) h
  refine ⟨fun c p hunset => ?client, fun p hsetup => hrefused ?setup, fun p hrun hp => hrefused ?payload,
    fun hrun hclaimed => ?accepted⟩
  case client => exact State.request_refused hreset (fun d hd => by cases hd; exact hunset) (by simp [halt])
  case setup => simp [halt, hsetup]
  case payload => simp [halt, hrun, hp]
  case accepted =>
    have hexec : exec (.halt .supervisor []) s = _ := State.request_supervisor hreset .halt [] halt
    rw [halt_ok hrun] at hexec
    have ⟨hfree, _⟩ := hclaimed
    have hbinding := s.plant.haltFreed_halts.binding
    obtain ⟨hout, hchan⟩ := s.plant.out_halt
    refine ⟨_, hexec, rfl, Plant.allot_halt hfree, rfl, rfl, rfl, rfl, s.plant.haltFreed_halts.levels,
      fun i n hi hn => (hbinding n).trans (if_pos ⟨i, Plant.mem_inUse.mpr hi, hn⟩),
      fun n hn => (hbinding n).trans (if_neg fun ⟨i, hi, hin⟩ => hn i (Plant.mem_inUse.mp hi) hin),
      hout, fun n => (hchan n).trans rfl, fun hshaped k => OutputStage.load_zero fun n => ?_,
      Plant.client_halt hclaimed⟩
    have hphase : (s.plant.halt.chan n).phase = none := by rw [hchan, Channel.cut_phase (hshaped n)]
    exact hphase
end

section
/-! What reaches the output stage, said once: every step is a chain of the output stage's own operations, an accepted
SET_CHANNEL in SETUP, or a reset. -/

namespace Sys2Proof.Machine

/-! ### The operations of the output stage -/

/-- One operation of the output stage, whoever asks for it. -/
inductive OutputStage.Move (o : OutputStage) : OutputStage → Prop
  /-- R105. -/
  | command (terms : List Term) (d : Term → Nat) (id : BitVec 16) : Move o (o.command terms d id)
  /-- R109. -/
  | cut (ns : List ChannelIx) : Move o (o.cut ns)
  /-- R115. -/
  | latch (n : ChannelIx) : Move o (o.latch n)
  /-- R124, R126. -/
  | clearLatch (n : ChannelIx) : Move o (o.setChan n o.channels[n].cleared)
  /-- R72. -/
  | reportTaken (n : ChannelIx) : Move o { o with reports := o.reports.eraseP fun r => r.channel == n }
  /-- R99 to R107. -/
  | frames {o' : OutputStage} (h : o.Runs o') : Move o o'

/-- A chain of operations of the output stage. -/
abbrev OutputStage.Moves : OutputStage → OutputStage → Prop := Relation.ReflTransGen OutputStage.Move

theorem OutputStage.Moves.ofEq {o o' : OutputStage} (h : o' = o) : o.Moves o' := h ▸ .refl

theorem OutputStage.Moves.ofCommand {o o' : OutputStage} {terms : List Term} {d : Term → Nat} {id : BitVec 16}
    (h : o' = o.command terms d id) : o.Moves o' := h ▸ .single (.command terms d id)

theorem OutputStage.Moves.ofCut {o o' : OutputStage} {ns : List ChannelIx} (h : o' = o.cut ns) : o.Moves o' :=
  h ▸ .single (.cut ns)

/-! ### What each act asks of the output stage -/

theorem Plant.PassAct.outMoves {eff : Nat} {o : Origin} {p q : Plant} (h : Plant.PassAct eff o p q) :
    p.out.Moves q.out := by
  cases h with
  | topUp i _ _ => exact .ofCommand (Plant.markChanged_out ..)
  | grant i _ _ => exact .ofCommand (Plant.markChanged_out ..)
  | reduce i _ _ _ => exact .ofCommand (Plant.markChanged_out ..)
  | shed i _ _ => exact .ofCommand (Plant.markChanged_out ..)
  | stage i _ _ => exact .ofEq (Plant.markChanged_out ..)

/-- The staged allotment rises, or goes back to the queue without output (R65). -/
theorem Plant.resolveSlot_outMoves (p : Plant) (eff : Nat) (i : SlotIx) : p.out.Moves (p.resolveSlot eff i).out := by
  unfold Plant.resolveSlot
  simp only
  split
  · exact .ofCommand (Plant.markChanged_out ..)
  · exact .ofEq (Plant.markChanged_out ..)

/-- The end of a fall moves records and lists only (R74). -/
theorem Plant.endFall_out (p : Plant) (i : SlotIx) (o : FallOutcome) : (p.endFall i o).out = p.out := by
  cases o <;> simp [Plant.endFall, Plant.freeSlot_frame]

/-- A trip cuts the channels of a granted allotment, and no others (R118 to R120). -/
theorem Plant.tripOne_outMoves (p : Plant) (i : SlotIx) : p.out.Moves (p.tripOne i).out := by
  by_cases hg : (p.allot i).state.granted = true
  · exact .ofCut (Plant.out_tripOne hg)
  · refine .ofEq ?_
    cases hs : (p.allot i).state with
    | free => simp [Plant.tripOne, hs]
    | tripped => simp [Plant.tripOne, hs]
    | waiting => simp [Plant.tripOne, hs]
    | staged => simp [Plant.tripOne, hs]
    | rising => exact absurd (by rw [hs]; rfl) hg
    | running => exact absurd (by rw [hs]; rfl) hg
    | reduced => exact absurd (by rw [hs]; rfl) hg
    | falling o => exact absurd (by rw [hs]; rfl) hg

theorem Plant.reshapeAccepted_outMoves (p : Plant) (i : SlotIx) (ds : List Nat) :
    p.out.Moves (p.reshapeAccepted i ds).out := by
  have hstore : (p.storeReshape i ds).out = p.out := by simp [Plant.storeReshape]
  unfold Plant.reshapeAccepted
  simp only
  split
  · exact .ofEq hstore
  split
  · exact .refl
  · exact .ofCommand (by rw [Plant.startTransition_out, hstore])

theorem Plant.Act.outMoves {eff : Nat} {p q : Plant} (h : Plant.Act eff p q) : p.out.Moves q.out := by
  cases h with
  | pass h => exact h.outMoves
  | resolve h _ => exact p.resolveSlot_outMoves eff h.slot
  | unflag i _ => exact .refl
  | dropReport n => exact .single (.reportTaken n)
  | takeReport n r h _ _ _ => exact .single (.reportTaken n)
  | endRise i _ _ => exact .refl
  | endFall i o _ _ => exact .ofEq (p.endFall_out i o)
  | release o retires i =>
    have hout := p.out_releaseOne o retires i
    split at hout
    · exact .ofCommand hout
    · exact .ofEq hout
  | latch n _ _ => exact .single (.latch n)
  | trip n h _ _ => exact .head (.latch n) ((p.latch n).tripOne_outMoves h.slot)
  | runTick i r _ => exact .refl
  | expire i _ =>
    exact .ofCommand (by simp [Plant.expired, Plant.fallToFree] :
      (p.expired i).out = p.out.command (p.allot i).terms (fun _ => 0) ((p.allot i).commandId + 1))
  | reshape i ds _ _ _ _ => exact p.reshapeAccepted_outMoves i ds
  | clearLatch n _ => exact .single (.clearLatch n)
  | retry o i _ _ => exact .ofEq (Plant.markChanged_out ..)
  | client c x _ => exact .refl
  | levels l => exact .refl
  | output o h => exact .single (.frames h)

theorem Plant.Acts.outMoves {eff : Nat} {p q : Plant} (h : Plant.Acts eff p q) : p.out.Moves q.out := by
  induction h with
  | refl => exact .refl
  | tail _ ha ih => exact ih.trans ha.outMoves

/-! ### What each kind of step asks of it -/

theorem cutWalk_outMoves {eff : Nat} (l : List Handle) (p : Plant) : p.out.Moves (cutWalk eff l p).out := by
  induction l generalizing p with
  | nil => exact .refl
  | cons h rest ih =>
    unfold cutWalk
    split
    · exact .refl
    · exact (OutputStage.Moves.ofCut (p.out_hardCutOne h.slot)).trans (ih _)

/-- A pass, a hard cut with what follows it, or nothing (R36). -/
theorem Plant.ceilingReport_outMoves (p : Plant) (old new : Nat) : p.out.Moves (p.ceilingReport old new).out := by
  unfold Plant.ceilingReport
  split
  · exact (p.passIf_acts new .other true).outMoves
  split
  · exact .refl
  · exact (cutWalk_outMoves _ p).trans (Plant.settleStage_acts _ new true).outMoves

theorem State.recompute_outMoves (s : State) : s.plant.out.Moves s.recompute.plant.out := by
  unfold State.recompute
  simp only
  split
  · exact .refl
  · exact Plant.ceilingReport_outMoves _ _ _

/-- What a step does to the output stage. -/
theorem State.Effect.outMoves {s t : State} (h : s.Effect t) :
    s.plant.out.Moves t.plant.out
      ∨ (s.ctl.part = .setup ∧ ∃ n enable rating step low,
          t.plant.out = s.plant.out.setChan n ((s.plant.chan n).configure enable rating step low))
      ∨ t.plant.out = OutputStage.reset := by
  cases h with
  | acts h => exact .inl h.outMoves
  | claim c p i hp h =>
    have hcreate : (s.plant.createAllotment c p i).out = s.plant.out := by simp [Plant.createAllotment]
    exact .inl (hcreate ▸ h.outMoves)
  | channel n e r st low hs h => exact .inr (.inl ⟨hs, n, e, r, st, low, congrArg Plant.out h⟩)
  | configured c x _ _ h => rw [h]; exact .inl .refl
  | relimit s' _ hr h => rw [h, ← hr.plant]; exact .inl s'.recompute_outMoves
  | rederate s' _ _ h => exact .inl (.ofEq (congrArg Plant.out h))
  | halt h =>
    have hcut : s.plant.halt.out = s.plant.out.cut allChannels :=
      congrArg (OutputStage.cut · allChannels) s.plant.haltFreed_halts.out
    rw [h]
    exact .inl (.ofCut hcut)
  | reset h => exact .inr (.inr (congrArg Plant.out h))
  | held h => exact .inl (.ofEq (congrArg Plant.out h))
  | supply h => exact .inl (.ofEq (congrArg Plant.out h))

/-- What every channel of a transition command keeps, the command keeps (R105). -/
theorem OutputStage.command_keeps {P : OutputStage → Prop} (hone : ∀ o n d id, P o → P (o.takeCommand n d id))
    {o : OutputStage} (h : P o) (terms : List Term) (d : Term → Nat) (id : BitVec 16) : P (o.command terms d id) := by
  unfold OutputStage.command
  induction terms generalizing o with
  | nil => exact h
  | cons t r ih => exact ih (hone o t.channel (d t) id h)

end Sys2Proof.Machine
end

section
/-! The records of the channels against their states (R110, R112, section 5.6), and the part at rest in SETUP (R166). -/

namespace Sys2Proof.Machine

/-! ### Channel records -/

/-- Every channel's record agrees with its state. -/
def OutputStage.shaped (o : OutputStage) : Prop := ∀ n : ChannelIx, o.channels[n].shaped

theorem OutputStage.shaped.setChan {o : OutputStage} (h : o.shaped) {n : ChannelIx} {c : Channel} (hc : c.shaped) :
    (o.setChan n c).shaped := fun m => by
  rw [OutputStage.channels_setChan]
  split
  · exact hc
  · exact h m

theorem OutputStage.shaped.takeCommand {o : OutputStage} (h : o.shaped) (n : ChannelIx) (d : Nat) (id : BitVec 16) :
    (o.takeCommand n d id).shaped := by
  by_cases hf : o.channels[n].state = .faulted
  · rwa [OutputStage.takeCommand_faulted hf]
  intro m
  by_cases hm : m = n
  · obtain ⟨-, -, -, -, hshaped⟩ := o.takeCommand_self d id hf
    exact hm ▸ hshaped (h n)
  · rw [o.channels_takeCommand_ne d id hm]
    exact h m

theorem OutputStage.Move.shaped {o o' : OutputStage} (hm : o.Move o') (h : o.shaped) : o'.shaped := by
  cases hm with
  | command terms d id => exact OutputStage.command_keeps (fun o n d id h => h.takeCommand n d id) h terms d id
  | cut ns =>
    intro n
    rw [OutputStage.channels_cut]
    split
    · exact Channel.cut_shaped (h n)
    · exact h n
  | latch n => exact OutputStage.shaped.setChan (o := o.dropReports n) h (Channel.latched_shaped _)
  | clearLatch n => exact h.setChan (Channel.cleared_shaped _)
  | reportTaken n => exact h
  | frames hr => exact hr.settles.shaped h

theorem OutputStage.Moves.shaped {o o' : OutputStage} (hm : o.Moves o') (h : o.shaped) : o'.shaped := by
  induction hm with
  | refl => exact h
  | tail _ hone ih => exact hone.shaped ih

theorem OutputStage.shaped_reset : OutputStage.reset.shaped := fun n => by
  have hc : OutputStage.reset.channels[n] = Channel.reset := Plant.chan_reset n
  rw [hc]
  exact Channel.shaped_reset

/-! ### The part at rest -/

/-- At rest an act finds nothing to do but at a channel, which stays at rest (R166). Unlike in `Plant.Act.quiet`, nothing
is asked of the plant's records and bindings: a slot that is FREE takes no report, no release and no trip. -/
theorem Plant.Act.rests {eff : Nat} {p q : Plant} (h : Plant.Act eff p q) (hs : p.out.shaped) (hq : p.quiet) :
    q.quiet := by
  obtain ⟨hfree, hcommitted, hqueue, hgrants, hstage, hrest⟩ := hq
  have busy {i : SlotIx} {P : Prop} (hn : (p.allot i).state ≠ .free) : P := absurd (hfree i) hn
  have one {n : ChannelIx} {c : Channel} (ho : ∀ m, q.chan m = if m = n then c else p.chan m)
      (hc : c.state = .off ∨ c.state = .faulted) (m : ChannelIx) :
      (q.chan m).state = .off ∨ (q.chan m).state = .faulted := by
    rw [ho]
    split
    · exact hc
    · exact hrest m
  cases h with
  | pass h =>
    cases h with
    | topUp i hst _ => exact busy (i := i) (by simp [hst])
    | grant i hst _ => exact busy (i := i) (by simp [hst])
    | reduce i hg _ _ => exact busy (AllotState.ne_free_of_granted hg)
    | shed i hg _ => exact busy (AllotState.ne_free_of_granted hg)
    | stage i hst _ => exact busy (i := i) (by simp [hst])
  | resolve h hst => rw [hstage] at hst; cases hst
  | unflag i hn => exact busy hn
  | dropReport n => exact ⟨hfree, hcommitted, hqueue, hgrants, hstage, hrest⟩
  | takeReport n r h _ _ ht => simp [Allotment.takesReport, hfree h.slot, AllotState.outcome?] at ht
  | endRise i hst _ => exact busy (i := i) (by simp [hst])
  | endFall i o hst _ => exact busy (i := i) (by simp [hst])
  | release o retires i =>
    rw [Plant.releaseOne_still o retires (.inl (hfree i))]
    exact ⟨hfree, hcommitted, hqueue, hgrants, hstage, hrest⟩
  | latch n _ _ => exact ⟨hfree, hcommitted, hqueue, hgrants, hstage, one (p.chan_latch n) (.inr rfl)⟩
  | trip n h _ _ =>
    have hkeep : (p.latch n).tripOne h.slot = p.latch n := by
      simp [Plant.tripOne, show ((p.latch n).allot h.slot).state = .free from hfree h.slot]
    rw [hkeep] at one ⊢
    exact ⟨hfree, hcommitted, hqueue, hgrants, hstage, one (p.chan_latch n) (.inr rfl)⟩
  | runTick i r hr => exact busy (AllotState.ne_free_of_runs hr)
  | expire i hr => exact busy (AllotState.ne_free_of_runs hr)
  | reshape i ds _ _ hst _ => exact busy (i := i) (by rcases hst with h | h <;> simp [h])
  | clearLatch n _ =>
    exact ⟨hfree, hcommitted, hqueue, hgrants, hstage, one (fun m => p.chan_setChan n m _) (.inl rfl)⟩
  | retry o i hst _ => exact busy (i := i) (by simp [hst])
  | client c x _ => exact ⟨hfree, hcommitted, hqueue, hgrants, hstage, hrest⟩
  | levels l =>
    have hempty : (p.relevelled l).eng.queue = [] := by simp [Plant.relevelled, Plant.regroup, hqueue]
    exact ⟨hfree, hcommitted, hempty, hgrants, hstage, hrest⟩
  | output o h => exact ⟨hfree, hcommitted, hqueue, hgrants, hstage, h.settles.quiet hs hrest⟩

theorem Plant.Acts.rests {eff : Nat} {p q : Plant} (h : Plant.Acts eff p q) (hs : p.out.shaped) (hq : p.quiet) :
    q.quiet := by
  induction h with
  | refl => exact hq
  | tail hacts ha ih => exact ha.rests ((Plant.Acts.outMoves hacts).shaped hs) ih

/-- A cut leaves a channel at rest (R109). -/
theorem Channel.cut_rests (c : Channel) : c.cut.state = .off ∨ c.cut.state = .faulted := by
  match hs : c.state with
  | .off => left; simp [Channel.cut, hs]
  | .faulted => right; simp [Channel.cut, hs]
  | .rise | .on | .fall => left; simp [Channel.cut, hs, Channel.cleared]

/-- HALT leaves the part at rest, whatever the records were (R170). -/
theorem Plant.halt_rests (p : Plant) : p.halt.quiet := by
  obtain ⟨-, hcut⟩ := p.out_halt
  exact ⟨p.haltFreed_free, rfl, rfl, rfl, rfl, fun n => hcut n ▸ Channel.cut_rests _⟩

/-- An accepted SET_CHANNEL in SETUP leaves its channel in agreement with its state, and the part at rest (R98). -/
theorem Plant.configure_rests {p : Plant} (hs : p.out.shaped) (hq : p.quiet) (n : ChannelIx) (enable : Bool)
    (rating step : Nat) (low : Bool) :
    let q := p.setChan n ((p.chan n).configure enable rating step low)
    q.out.shaped ∧ q.quiet := by
  intro q
  obtain ⟨hfree, hcommitted, hqueue, hgrants, hstage, hrest⟩ := hq
  obtain ⟨hshaped, hstate⟩ := Channel.configure_rest (hs n) (hrest n) enable rating step low
  refine ⟨hs.setChan hshaped, hfree, hcommitted, hqueue, hgrants, hstage, fun m => ?_⟩
  rw [Plant.chan_setChan]
  split
  · exact hstate
  · exact hrest m

/-! ### The steps -/

/-- Every kind of step keeps the channel records in agreement with their states. -/
theorem State.Effect.shaped {s t : State} (h : s.Effect t) (hs : s.outputsSound) : t.plant.out.shaped := by
  obtain ⟨hshaped, hquiet⟩ := hs
  rcases h.outMoves with hm | ⟨hsetup, n, enable, rating, step, low, hout⟩ | hout
  · exact hm.shaped hshaped
  · obtain ⟨h1, -⟩ := Plant.configure_rests hshaped (hquiet hsetup).1 n enable rating step low
    rw [hout]
    exact h1
  · rw [hout]
    exact OutputStage.shaped_reset

/-- Every kind of step that leaves the part in SETUP leaves it at rest with an effective ceiling of 0. -/
theorem State.Effect.setupQuiet {s t : State} (h : s.Effect t) (hs : s.outputsSound) (ht : t.ctl.part = .setup) :
    t.plant.quiet ∧ t.lim.effective = 0 := by
  obtain ⟨hshaped, hquiet⟩ := hs
  cases h with
  | acts h hlim hk =>
    obtain ⟨hq, heff⟩ := hquiet (hk.part ▸ ht)
    exact ⟨h.rests hshaped hq, by rw [hlim, heff]⟩
  | claim c p i hpass h hlim hk =>
    obtain ⟨-, hrun, -⟩ := hpass
    rw [hk.part, hrun] at ht
    cases ht
  | channel n enable rating step low hsetup h hlim hk =>
    obtain ⟨hq, heff⟩ := hquiet hsetup
    rw [h, hlim]
    exact ⟨(Plant.configure_rests hshaped hq n enable rating step low).2, heff⟩
  | configured c x _ hsetup h hlim hk =>
    rw [h, hlim]
    exact hquiet hsetup
  | relimit s' hr h hp hlim hk =>
    obtain ⟨heff', hpart⟩ := h.frame
    rw [hk.part] at ht
    obtain ⟨hq, heff⟩ := hquiet (hpart ht)
    have hsame : s'.recompute = s' := State.recompute_same s' (by rw [heff', heff, ht]; rfl)
    rw [hp, hlim, hsame, h.plant, heff']
    exact ⟨hq, heff⟩
  | rederate s' hr h hp hlim hk =>
    obtain ⟨heff', hctl⟩ : s'.lim.effective = s.lim.effective ∧ s'.ctl = s.ctl := by cases h <;> exact ⟨rfl, rfl⟩
    rw [hp, hlim, heff']
    exact hquiet (by rw [← hctl, ← hk.part]; exact ht)
  | halt h hlim hk =>
    rw [h, hlim]
    exact ⟨Plant.halt_rests _, rfl⟩
  | reset h hlim =>
    rw [h, hlim]
    exact ⟨Plant.quiet_reset, rfl⟩
  | held h hlim hc =>
    rw [h, hlim]
    exact hquiet (hc ▸ ht)
  | supply h hlim hc =>
    rw [h, hlim]
    exact hquiet (hc ▸ ht)

end Sys2Proof.Machine

open Sys2Proof Sys2Proof.Machine in
/-- Settles O9: every kind of step keeps the channel records shaped, and the part at rest while it is in SETUP. -/
theorem setupStaysQuiet : Obligations.SetupStaysQuiet := by
  intro s t hs h
  rcases step_effect h with rfl | ⟨rest, he⟩
  · exact hs
  · exact ⟨he.shaped hs, he.setupQuiet hs⟩
end

section
/-! The frame counter and the ramp counter (R99, R103). -/

namespace Sys2Proof.Machine

theorem Timing.frames_pos (x : Timing) : 1 ≤ x.frames := by
  obtain ⟨rate, interval⟩ := x
  cases rate <;> cases interval <;> decide

/-- Only the timing in force and the two counters matter. -/
theorem OutputStage.countersInRange.congr {o o' : OutputStage} (h : o.countersInRange) (ht : o'.timing = o.timing)
    (hf : o'.frameCount = o.frameCount) (hr : o'.rampCounter = o.rampCounter) : o'.countersInRange := by
  unfold OutputStage.countersInRange
  rw [ht, hf, hr]
  exact h

/-- A frame start takes the ramp counter one down, or reloads it with the frames of the timing then in force (R103). -/
theorem OutputStage.frameStart_countersInRange {o : OutputStage} (h : o.countersInRange) :
    o.frameStart.countersInRange := by
  obtain ⟨-, -, hmax⟩ := h
  suffices 1 ≤ o.nextRampCounter ∧ o.nextRampCounter ≤ (o.nextTiming.getD o.timing).frames from
    ⟨(by decide : 0 < Config.frameCounts), this⟩
  unfold OutputStage.nextRampCounter
  split
  next x hx => rw [hx]; exact ⟨x.frames_pos, le_rfl⟩
  next hx =>
    rw [hx, Option.getD_none]
    split
    · exact ⟨o.timing.frames_pos, le_rfl⟩
    · omega

theorem OutputStage.Runs.countersInRange {o o' : OutputStage} (hr : o.Runs o') (h : o.countersInRange) :
    o'.countersInRange := by
  induction hr with
  | refl => exact h
  | frame _ ih => exact OutputStage.frameStart_countersInRange ih
  | count _ hc ih => exact ⟨hc, ih.2⟩
  | timing _ _ ih => exact ih

theorem OutputStage.Move.countersInRange {o o' : OutputStage} (hm : o.Move o') (h : o.countersInRange) :
    o'.countersInRange := by
  cases hm with
  | command terms d id =>
    refine OutputStage.command_keeps (fun o n d id h => ?_) h terms d id
    by_cases hf : o.channels[n].state = .faulted
    · rwa [OutputStage.takeCommand_faulted hf]
    · rw [OutputStage.takeCommand_live hf]
      exact h.congr rfl rfl rfl
  | cut ns =>
    rw [o.cut_frame ns]
    exact h.congr rfl rfl rfl
  | latch n => exact h.congr rfl rfl rfl
  | clearLatch n => exact h.congr rfl rfl rfl
  | reportTaken n => exact h.congr rfl rfl rfl
  | frames hr => exact hr.countersInRange h

theorem OutputStage.Moves.countersInRange {o o' : OutputStage} (hm : o.Moves o') (h : o.countersInRange) :
    o'.countersInRange := by
  induction hm with
  | refl => exact h
  | tail _ hone ih => exact hone.countersInRange ih

/-- Every kind of step keeps the counters in range. -/
theorem State.Effect.countersInRange {s t : State} (h : s.Effect t) (hs : s.plant.out.countersInRange) :
    t.plant.out.countersInRange := by
  rcases h.outMoves with hm | ⟨-, n, enable, rating, step, low, hout⟩ | hout
  · exact hm.countersInRange hs
  · rw [hout]
    exact hs.congr rfl rfl rfl
  · rw [hout]
    exact ⟨by decide, by decide, by decide⟩

end Sys2Proof.Machine

open Sys2Proof Sys2Proof.Machine in
/-- Settles O13: every kind of step keeps the two counters in range. -/
theorem frameAndRampCountersStayInRange : Obligations.FrameAndRampCountersStayInRange := by
  intro s t hs h
  rcases step_effect h with rfl | ⟨rest, he⟩
  · exact hs
  · exact he.countersInRange hs
end

section
/-! Pulses and gates (R99, R100). -/

namespace Sys2Proof.Machine

/-- The pulse of a channel in a phase slot, and what the pulse before it runs past count 255 (R99, R100). -/
theorem Channel.newPulse_slotted {c : Channel} {p : PhaseIx} (h : c.phase = some p) :
    c.newPulse = { c with pulse := c.applied, tail := 32 * p.val + c.pulse - 256 } := by
  simp [Channel.newPulse, h, Config.phaseSpacing, Config.frameCounts]

/-- The gate of a channel in a phase slot: high in its pulse and in the tail of the pulse before (R100). -/
theorem Channel.gateAt_slotted {c : Channel} {p : PhaseIx} (h : c.phase = some p) (k : Nat) :
    c.gateAt k = true ↔ (32 * p.val ≤ k ∧ k < 32 * p.val + c.pulse) ∨ k < c.tail := by
  unfold Channel.gateAt
  rw [h]
  simp only [Bool.or_eq_true, decide_eq_true_eq]
  rfl

/-- The gate in the frame that a frame start begins: the pulse has the duty applied now, the tail that of the pulse before
(R100). -/
theorem Channel.gateAt_newPulse {c : Channel} {p : PhaseIx} (h : c.phase = some p) (k : Nat) :
    c.newPulse.gateAt k = true ↔
      (32 * p.val ≤ k ∧ k < 32 * p.val + c.applied) ∨ k < 32 * p.val + c.pulse - 256 := by
  have hnew := Channel.newPulse_slotted h
  have hphase : c.newPulse.phase = some p := by rw [hnew]; exact h
  rw [Channel.gateAt_slotted hphase, hnew]

theorem Channel.gateAt_unslotted {c : Channel} (h : c.phase = none) (k : Nat) : c.gateAt k = false := by
  simp [Channel.gateAt, h]

/-- A channel that drives an output has a phase slot (R112). -/
theorem Channel.shaped.slotted {c : Channel} (hs : c.shaped) (h : c.state = .rise ∨ c.state = .on ∨ c.state = .fall) :
    c.phase.isSome = true := by
  obtain ⟨-, -, hrise, hon, hfall, -⟩ := hs
  rcases h with h | h | h
  · exact (hrise h).2
  · exact (hon h).2.2
  · exact (hfall h).2

end Sys2Proof.Machine

open Sys2Proof Sys2Proof.Machine in
/-- Settles O43: the frame start after that of `c.newPulse` fixes the tail of its pulse of `c.applied` counts, which
ends before the slot's start count since a duty is at most 255. -/
theorem pulseIsOneUnbrokenOnTime : Obligations.PulseIsOneUnbrokenOnTime := by
  refine ⟨fun c hs => ⟨hs.slotted, fun hrest k => ?_⟩, fun c p x k hp hduty => ⟨?_, fun h => by omega⟩⟩
  · obtain ⟨-, -, hphase⟩ := hs.rest hrest
    exact Channel.gateAt_unslotted hphase k
  · have htail : k < 32 * p.val + c.applied - 256 ↔ k + 256 < 32 * p.val + c.applied := by omega
    have hnext := Channel.gateAt_newPulse (c := { c.newPulse with applied := x }) (p := p)
    rw [Channel.newPulse_slotted hp] at hnext ⊢
    exact (hnext hp k).trans (or_congr Iff.rfl htail)
end

section
/-! A frame start (R99, R103 to R107): what it makes of each channel, and the reports it makes in channel order. -/

namespace Sys2Proof.Machine

/-! ### One channel -/

/-- The duty a channel applies after a frame start (R104, R106). -/
def Channel.movedTo (c : Channel) (step : Bool) : Nat :=
  if step = true ∧ c.reportDue = false then
    match c.state with
    | .rise => min (c.applied + c.step) c.target
    | .fall => max (c.applied - c.step) c.target
    | .off | .on | .faulted => c.applied
  else c.applied

/-- Whether a channel settles at a frame start (R104, R106). -/
def Channel.settlesAt (c : Channel) (step : Bool) : Bool :=
  c.reportDue || (step && (c.state == .rise || c.state == .fall) && c.movedTo step == c.target)

/-- The record of a channel that settles (R104, R106, R112). -/
theorem Channel.settled_eq (c : Channel) : c.settled = { c with
    reportDue := false
    state := if 0 < c.target then .on else .off
    phase := if c.target = 0 then none else c.phase } := by
  unfold Channel.settled
  split
  next h => rw [if_neg h.ne']
  next h => rw [if_pos (by omega)]

/-- A step moves the applied duty and nothing else (R104). -/
theorem Channel.ramped_eq (c : Channel) (hd : c.reportDue = false) :
    c.ramped = { c with applied := c.movedTo true } := by
  obtain ⟨_, _, _, state, _, _, _, _, _, _, _⟩ := c
  cases hd
  cases state <;> rfl

theorem Channel.reportDue_cleared {c : Channel} (hd : c.reportDue = false) : { c with reportDue := false } = c := by
  cases c
  cases hd
  rfl

theorem Channel.movedTo_still {c : Channel} {step : Bool}
    (h : c.reportDue = true ∨ ¬(step && (c.state == .rise || c.state == .fall)) = true) :
    c.movedTo step = c.applied := by
  unfold Channel.movedTo
  split
  next hs =>
    obtain ⟨rfl, hd⟩ := hs
    cases hst : c.state <;> simp_all
  next => rfl

/-- A channel at a frame start: its duty moves, and where it settles it leaves its report due, turns ON or OFF, and at 0
leaves its phase slot (R104, R106, R112). -/
theorem Channel.atFrameStart_eq (c : Channel) (step : Bool) : c.atFrameStart step = ({ c with
    applied := c.movedTo step
    reportDue := false
    state := if c.settlesAt step = true then (if 0 < c.target then .on else .off) else c.state
    phase := if c.settlesAt step = true ∧ c.target = 0 then none else c.phase }, c.settlesAt step) := by
  unfold Channel.atFrameStart
  split
  next hd =>
    have hsettles : c.settlesAt step = true := by simp [Channel.settlesAt, hd]
    simp [hsettles, Channel.settled_eq, Channel.movedTo_still (.inl hd)]
  next hd =>
    have hd' : c.reportDue = false := by simpa using hd
    split
    next hmoves =>
      obtain ⟨rfl, hstate⟩ := Bool.and_eq_true_iff.mp hmoves
      have hsettles : c.settlesAt true = (c.movedTo true == c.target) := by simp [Channel.settlesAt, hd', hstate]
      rw [c.ramped_eq hd', hsettles]
      split
      next h => simp [Channel.settled_eq, show c.movedTo true = c.target from h]
      next h => simp [show c.movedTo true ≠ c.target from h, hd']
    next hmoves =>
      have hsettles : c.settlesAt step = false := by simp only [Channel.settlesAt, hd', hmoves]; rfl
      simp [hsettles, Channel.movedTo_still (.inr hmoves), Channel.reportDue_cleared hd']

/-! ### Every channel -/

theorem OutputStage.channels_channelFrameStart (step : Bool) (o : OutputStage) (n m : ChannelIx) :
    (OutputStage.channelFrameStart step o n).channels[m] =
      if m = n then (o.channels[n].atFrameStart step).1.newPulse else o.channels[m] := by
  rw [← OutputStage.channels_setChan]
  unfold OutputStage.channelFrameStart
  simp only
  split <;> rfl

/-- The report of a channel that settles at a frame start (R107). -/
def OutputStage.reportOf (o : OutputStage) (step : Bool) (n : ChannelIx) : Report :=
  { channel := n, command := o.channels[n].command, applied := o.channels[n].movedTo step }

theorem OutputStage.reports_channelFrameStart (step : Bool) (o : OutputStage) (n : ChannelIx) :
    (OutputStage.channelFrameStart step o n).reports =
      o.reports ++ if o.channels[n].settlesAt step then [o.reportOf step n] else [] := by
  unfold OutputStage.channelFrameStart
  rw [Channel.atFrameStart_eq]
  simp only
  split
  · rfl
  · exact (List.append_nil _).symm

/-- The channels of a frame start one after the other: each finds its own record as it was, and the reports follow in the
same order. -/
theorem OutputStage.foldl_channelFrameStart (step : Bool) (l : List ChannelIx) (hn : l.Nodup) (o : OutputStage) :
    let o' := l.foldl (OutputStage.channelFrameStart step) o
    (∀ m : ChannelIx, o'.channels[m] =
      if m ∈ l then (o.channels[m].atFrameStart step).1.newPulse else o.channels[m])
    ∧ o'.reports = o.reports ++ (l.filter fun n => o.channels[n].settlesAt step).map (o.reportOf step) := by
  induction l using List.reverseRecOn with
  | nil => exact ⟨by simp, by simp⟩
  | append_singleton l v ih =>
    rw [List.nodup_append] at hn
    obtain ⟨hl, -, hne⟩ := hn
    have hv : v ∉ l := fun h => hne _ h _ (by simp) rfl
    obtain ⟨hchannels, hreports⟩ := ih hl
    rw [List.foldl_append]
    simp only [List.foldl_cons, List.foldl_nil]
    generalize l.foldl (OutputStage.channelFrameStart step) o = r at hchannels hreports
    have hr : r.channels[v] = o.channels[v] := by rw [hchannels, if_neg hv]
    have hreport : r.reportOf step v = o.reportOf step v := by simp only [OutputStage.reportOf, hr]
    constructor
    · intro m
      rw [OutputStage.channels_channelFrameStart, hr, hchannels]
      by_cases hm : m = v
      · subst hm; simp
      · simp [hm]
    · have hlast : (([v] : List ChannelIx).filter fun n => o.channels[n].settlesAt step).map (o.reportOf step)
          = if o.channels[v].settlesAt step then [o.reportOf step v] else [] := by
        rw [List.filter_singleton]
        cases o.channels[v].settlesAt step <;> rfl
      rw [OutputStage.reports_channelFrameStart, hr, hreport, hreports, List.filter_append, List.map_append, hlast,
        List.append_assoc]

/-- What a frame start makes of every channel, and the reports it makes, behind those made before (R107). -/
theorem OutputStage.frameStart_eq (o : OutputStage) :
    (∀ n : ChannelIx, o.frameStart.channels[n] = (o.channels[n].atFrameStart o.stepNext).1.newPulse)
    ∧ o.frameStart.reports = o.reports
        ++ ((List.finRange 16).filter fun n => o.channels[n].settlesAt o.stepNext).map (o.reportOf o.stepNext) := by
  obtain ⟨hchannels, hreports⟩ :=
    OutputStage.foldl_channelFrameStart o.stepNext allChannels (List.nodup_finRange 16) o
  unfold OutputStage.frameStart
  generalize allChannels.foldl (OutputStage.channelFrameStart o.stepNext) o = r at hchannels hreports
  have hall (n : ChannelIx) : n ∈ allChannels := List.mem_finRange n
  exact ⟨fun n => (hchannels n).trans (if_pos (hall n)), hreports⟩

/-- A new pulse touches the pulse and the tail only, and a channel without a phase slot has neither (R99, R100). -/
theorem Channel.newPulse_eq (c : Channel) : c.newPulse = { c with
    pulse := if c.phase.isSome = true then c.applied else 0
    tail := match c.phase with | none => 0 | some p => 32 * p.val + c.pulse - 256 } := by
  cases hp : c.phase with
  | none => simp [Channel.newPulse, hp]
  | some p => simp [Channel.newPulse_slotted hp, hp]

theorem State.frameStart_taken {s : State} (hreset : s.inReset = false) :
    exec .frameStart s = .next (s.onOutput OutputStage.frameStart) := by
  change execFrameStart s = _
  exact State.taking_run hreset _

end Sys2Proof.Machine

open Sys2Proof Sys2Proof.Machine in
/-- Settles O41: the counters by the equations of a frame start, each channel by its own, and the reports in channel
order. -/
theorem frameStartStepsSettlesAndReports : Obligations.FrameStartStepsSettlesAndReports := by
  intro s hreset _ o step moved settles
  obtain ⟨hchannels, hreports⟩ := o.frameStart_eq
  refine ⟨_, State.frameStart_taken hreset, rfl, rfl, fun hnone => ?timing, fun n => ?channel, ?reports⟩
  case timing =>
    have htiming : o.frameStart.timing = o.nextTiming.getD o.timing := rfl
    have hramp : o.frameStart.rampCounter = o.nextRampCounter := rfl
    refine ⟨htiming.trans (by rw [hnone]; rfl), hramp.trans ?_⟩
    simp [OutputStage.nextRampCounter, hnone, step]
  case channel =>
    intro c d
    have hd : d = (c.atFrameStart step).1.newPulse := hchannels n
    rw [Channel.atFrameStart_eq, Channel.newPulse_eq] at hd
    rw [hd]
    exact ⟨rfl, rfl, rfl, rfl, rfl, rfl, rfl, rfl, rfl, rfl, rfl⟩
  case reports => exact hreports
end

section
/-! SET_CHANNEL (R97, R98): its test of the fields, and what an accepted one writes and answers. -/

namespace Sys2Proof.Machine

/-- Order 4 of R97, on the five bytes of a payload. -/
theorem setChannelFieldsOk_iff (b en rh rl st : Byte) : setChannelFieldsOk [b, en, rh, rl, st] = true ↔
    b.toNat ≤ 15 ∧ ((en = 1 ∧ 1 ≤ 256 * rh.toNat + rl.toNat ∧ 256 * rh.toNat + rl.toNat ≤ 1023)
      ∨ (en = 0 ∧ 256 * rh.toNat + rl.toNat = 0)) ∧ st ≠ 0 := by
  have hone : en = 1 ↔ en.toNat = 1 := BitVec.toNat_inj.symm
  have hzero : en = 0 ↔ en.toNat = 0 := BitVec.toNat_inj.symm
  have hstep : st ≠ 0 ↔ 1 ≤ st.toNat := by
    rw [Nat.one_le_iff_ne_zero, Ne, Ne, ← BitVec.toNat_inj]; rfl
  have hfields : setChannelFieldsOk [b, en, rh, rl, st] = (decide (b.toNat ≤ 15)
      && (if en.toNat = 1 then decide (1 ≤ 256 * rh.toNat + rl.toNat ∧ 256 * rh.toNat + rl.toNat ≤ 1023)
        else decide (en.toNat = 0 ∧ 256 * rh.toNat + rl.toNat = 0))
      && decide (1 ≤ st.toNat)) := rfl
  rw [hone, hzero, hstep, hfields]
  by_cases h : en.toNat = 1
  · simp [h, and_assoc]
  · simp [h, and_assoc]

/-- The fields an accepted SET_CHANNEL writes (R98). -/
theorem Channel.configure_fields (c : Channel) (enable : Bool) (rating step : Nat) (low : Bool) :
    let c' := c.configure enable rating step low
    c'.enabled = enable ∧ c'.rating = rating ∧ c'.step = step := by
  unfold Channel.configure
  simp only
  split
  next => split <;> exact ⟨rfl, rfl, rfl⟩
  next => split <;> exact ⟨rfl, rfl, rfl⟩

/-- A disabled channel that is enabled latches an active fault input (R98). -/
theorem Channel.configure_enables {c : Channel} (h : c.enabled = false) (rating step : Nat) (low : Bool) :
    c.configure true rating step low =
      if low then { c with enabled := true, rating := rating, step := step }.latched
      else { c with enabled := true, rating := rating, step := step } := by
  simp [Channel.configure, h]

/-- A channel that stays enabled, or stays disabled, keeps its state (R98). -/
theorem Channel.configure_keeps {c : Channel} {enable : Bool} (h : c.enabled = enable) (rating step : Nat) (low : Bool) :
    c.configure enable rating step low = { c with enabled := enable, rating := rating, step := step } := by
  cases enable <;> simp [Channel.configure, h]

/-- An enabled channel that is disabled loses its latch (R98). -/
theorem Channel.configure_disables {c : Channel} (h : c.enabled = true) (rating step : Nat) (low : Bool) :
    c.configure false rating step low =
      { c with enabled := false, rating := rating, step := step, state := .off } := by
  simp [Channel.configure, h]

/-- A SET_CHANNEL in SETUP that passes its tests writes its channel, and answers with the bytes it was sent and the
channel's state (R98). -/
theorem setChannel_ok {s : State} (hsetup : s.ctl.part = .setup) {b en rh rl st : Byte} {n : ChannelIx}
    (hb : b.toNat = n.val) (hok : setChannelFieldsOk [b, en, rh, rl, st] = true) :
    let d := (s.plant.chan n).configure (en == 1) (256 * rh.toNat + rl.toNat) st.toNat s.pins.faultLow[n]
    setChannel .supervisor [b, en, rh, rl, st] s
      = (s.setPlant (s.plant.setChan n d), .okWith ([b, en, rh, rl, st] ++ [d.state.code])) := by
  intro d
  obtain ⟨henabled, hrating, hstep⟩ :=
    (s.plant.chan n).configure_fields (en == 1) (256 * rh.toNat + rl.toNat) st.toNat s.pins.faultLow[n]
  obtain ⟨-, hen, -⟩ := (setChannelFieldsOk_iff b en rh rl st).mp hok
  have hn : Fin.ofNat 16 (byteAt [b, en, rh, rl, st] 0) = n := by
    rw [byteAt_cons_zero, hb]
    exact Fin.ofNat_val_eq_self n
  have hflag : flag (en == 1) = en := by rcases hen with ⟨rfl, -⟩ | ⟨rfl, -⟩ <;> rfl
  have hone : (byteAt [b, en, rh, rl, st] 1 == 1) = (en == 1) := by
    rw [Bool.eq_iff_iff, beq_iff_eq, beq_iff_eq]
    exact BitVec.toNat_inj (y := 1#8)
  have hreply : channelReply n d = [b, en, rh, rl, st] ++ [d.state.code] := by
    rw [channelReply, henabled, hrating, hstep, hflag, word_of_bytes, byte_toNat, channelByte, ← hb, byte_toNat]
    rfl
  simp only [setChannel, ne_eq, not_true_eq_false, if_false, hsetup, hok, hn, hone, Bool.not_true, Bool.false_eq_true]
  rw [← hreply]
  rfl

end Sys2Proof.Machine

open Sys2Proof Sys2Proof.Machine in
/-- Settles O38: the refusals by their tests, and an accepted SET_CHANNEL by the four cases of the enable flags. -/
theorem setChannelWritesTheRecordAndTheLatch : Obligations.SetChannelWritesTheRecordAndTheLatch := by
  intro s hreset hsetup refused
  have hrefused {q : List Byte} {st : Status} (h : setChannel .supervisor q s = s.refuse st) : refused q st :=
    State.request_refused hreset (fun d hd => by cases hd) h
  refine ⟨fun q hq => hrefused (by simp [setChannel, hsetup, hq]), fun b en rh rl st => ?_⟩
  intro q rating fits
  have hfits : setChannelFieldsOk q = true ↔ fits := setChannelFieldsOk_iff b en rh rl st
  refine ⟨fun h => hrefused ?field, fun n hb hfit => ?accepted⟩
  case field =>
    have hbad : setChannelFieldsOk q = false := by simpa using mt hfits.mp h
    have hlength : q.length = 5 := rfl
    simp [setChannel, hsetup, hlength, hbad]
  case accepted =>
    intro c c' takes
    have haccepted {d : Channel} (hd : c.configure (en == 1) rating st.toNat s.pins.faultLow[n] = d) : takes d := by
      have hexec : exec (.setChannel .supervisor q) s = _ := State.request_supervisor hreset .setChannel q setChannel
      rw [setChannel_ok hsetup hb (hfits.mpr hfit)] at hexec
      exact hd ▸ hexec
    refine ⟨fun hc he hlow => haccepted ?_, fun hc he hlow => haccepted ?_, fun hc he => haccepted ?_,
      fun hc he => haccepted ?_, fun hc he => haccepted ?_⟩
    · rw [hlow]; subst he; exact Channel.configure_enables hc _ _ _
    · rw [hlow]; subst he; exact Channel.configure_enables hc _ _ _
    · subst he; exact Channel.configure_keeps hc _ _ _
    · subst he; exact Channel.configure_disables hc _ _ _
    · subst he; exact Channel.configure_keeps hc _ _ _
end

section
/-! SET_TIMING (R101 to R103): its codes, and the frame start that takes a stored timing. -/

namespace Sys2Proof.Machine

theorem FrameRate.ofCode_code (r : FrameRate) : FrameRate.ofCode r.code.toNat = some r := by cases r <;> rfl

theorem RampInterval.ofCode_code (i : RampInterval) : RampInterval.ofCode i.code.toNat = some i := by cases i <;> rfl

theorem FrameRate.ofCode_outside {n : Nat} (h : 2 < n) : FrameRate.ofCode n = none := by
  unfold FrameRate.ofCode
  rw [if_neg (by omega), if_neg (by omega), if_neg (by omega)]

theorem RampInterval.ofCode_outside {n : Nat} (h : 3 < n) : RampInterval.ofCode n = none := by
  unfold RampInterval.ofCode
  rw [if_neg (by omega), if_neg (by omega), if_neg (by omega), if_neg (by omega)]

/-- A code that names no rate or no interval is refused (order 4 of R101). -/
theorem setTiming_outside {s : State} (hsetup : s.ctl.part = .setup) {r i : Byte} (h : 2 < r.toNat ∨ 3 < i.toNat) :
    setTiming .supervisor [r, i] s = s.refuse .badField := by
  have hlength : [r, i].length = 2 := rfl
  have hrate : byteAt [r, i] 0 = r.toNat := rfl
  have hinterval : byteAt [r, i] 1 = i.toNat := rfl
  simp only [setTiming, ne_eq, not_true_eq_false, if_false, hsetup, hlength, hrate, hinterval]
  rcases h with h | h
  · rw [FrameRate.ofCode_outside h]
  · rw [RampInterval.ofCode_outside h]
    cases FrameRate.ofCode r.toNat <;> rfl

/-- An accepted SET_TIMING stores the timing its codes name, and answers with the codes and the frames per interval
(R102). -/
theorem setTiming_ok {s : State} (hsetup : s.ctl.part = .setup) (x : Timing) :
    setTiming .supervisor [x.rate.code, x.interval.code] s
      = (s.onOutput fun o => { o with nextTiming := some x }, .okWith (timingReply x)) := by
  have hlength : [x.rate.code, x.interval.code].length = 2 := rfl
  have hrate : byteAt [x.rate.code, x.interval.code] 0 = x.rate.code.toNat := rfl
  have hinterval : byteAt [x.rate.code, x.interval.code] 1 = x.interval.code.toNat := rfl
  simp only [setTiming, ne_eq, not_true_eq_false, if_false, hsetup, hlength, hrate, hinterval, FrameRate.ofCode_code,
    RampInterval.ofCode_code]

/-- A frame start takes a stored timing and reloads the ramp counter with its frames (R102, R103). -/
theorem OutputStage.frameStart_takesTiming {o : OutputStage} {x : Timing} (h : o.nextTiming = some x) :
    o.frameStart.timing = x ∧ o.frameStart.nextTiming = none ∧ o.frameStart.rampCounter = x.frames := by
  have htiming : o.frameStart.timing = o.nextTiming.getD o.timing := rfl
  have hramp : o.frameStart.rampCounter = o.nextRampCounter := rfl
  rw [htiming, hramp, OutputStage.nextRampCounter, h]
  exact ⟨rfl, rfl, rfl⟩

end Sys2Proof.Machine

open Sys2Proof Sys2Proof.Machine in
/-- Settles O39: the refusals in order, then the stored timing and the frame start that takes it. -/
theorem setTimingTakesEffectAtTheNextFrameStart : Obligations.SetTimingTakesEffectAtTheNextFrameStart := by
  intro s hreset refused
  have hrefused {p : List Byte} {st : Status} (h : setTiming .supervisor p s = s.refuse st) :
      refused .supervisor p st := State.request_refused hreset (fun d hd => by cases hd) h
  refine ⟨fun c p hunset => ?client, fun p hrun => hrefused (by simp [setTiming, hrun]),
    fun p hsetup hp => hrefused (by simp [setTiming, hsetup, hp]),
    fun r i hsetup h => hrefused (setTiming_outside hsetup h), fun x hsetup => ?accepted⟩
  case client => exact State.request_refused hreset (fun d hd => by cases hd; exact hunset) (by simp [setTiming])
  case accepted =>
    intro n p
    have hp : p = [x.rate.code, x.interval.code] := by
      obtain ⟨rate, interval⟩ := x
      cases rate <;> cases interval <;> rfl
    have hreply : timingReply x = p ++ [byte n] := by rw [hp]; rfl
    have hexec : exec (.setTiming .supervisor p) s = _ := State.request_supervisor hreset .setTiming p setTiming
    rw [hp, setTiming_ok hsetup, hreply, hp] at hexec
    exact ⟨_, hp ▸ hexec, rfl, _, State.frameStart_taken hreset, OutputStage.frameStart_takesTiming rfl⟩
end

section
/-! CLEAR_FAULT (R126): when a latch is cleared, and what the request answers on an enabled channel. -/

namespace Sys2Proof.Machine

/-! ### One latch (R124, R126) -/

theorem State.clearLatch_cleared {s : State} {n : ChannelIx} (hf : (s.plant.chan n).state = .faulted)
    (hlow : s.pins.faultLow[n] = false) :
    s.clearLatch n = s.setPlant (s.plant.setChan n (s.plant.chan n).cleared) := if_pos ⟨hf, hlow⟩

theorem State.clearLatch_kept {s : State} {n : ChannelIx}
    (h : (s.plant.chan n).state ≠ .faulted ∨ s.pins.faultLow[n] = true) : s.clearLatch n = s := by
  refine if_neg ?_
  rintro ⟨hf, hlow⟩
  rcases h with h | h
  · exact h hf
  · simp [hlow] at h

/-- A channel still FAULTED after the clearing has lost nothing. -/
theorem State.clearLatch_faulted {s : State} {n : ChannelIx}
    (h : ((s.clearLatch n).plant.chan n).state = .faulted) : s.clearLatch n = s := by
  refine State.clearLatch_kept ?_
  by_contra hc
  obtain ⟨hf, hlow⟩ : (s.plant.chan n).state = .faulted ∧ s.pins.faultLow[n] = false := by simpa using hc
  rw [State.clearLatch_cleared hf hlow, State.setPlant_plant, Plant.chan_setChan, if_pos rfl] at h
  cases h

/-! ### The request -/

theorem channelOfNumber_outside {k : Nat} (h : 15 < k) : channelOfNumber k = none := dif_neg (by omega)

theorem channelOfNumber_byte (n : ChannelIx) : channelOfNumber (byteAt [byte n.val] 0) = some n := by
  have hn : byteAt [byte n.val] 0 = n.val := by
    have := n.isLt
    simp only [byteAt_cons_zero, byte, BitVec.toNat_ofNat]; omega
  rw [hn]
  exact dif_pos n.isLt

/-- The handle bytes of a reply, written out (10.2). -/
theorem handleBytes_eq (b : Option Handle) :
    handleBytes b = (match b with | some h => [byte (h.slot.val + 1), h.generation] | none => [0, 0]) := by
  cases b <;> rfl

section Enabled
variable {s : State} {n : ChannelIx}

theorem clearFault_disabled (h : (s.plant.chan n).enabled = false) :
    clearFault .supervisor [byte n.val] s = s.refuse .channelDisabled := by
  simp [clearFault, channelOfNumber_byte, h]

/-- What CLEAR_FAULT does and answers on an enabled channel, from the clearing of its latch (R126). -/
theorem clearFault_enabled (h : (s.plant.chan n).enabled = true) :
    clearFault .supervisor [byte n.val] s = (s.clearLatch n,
      { status := if ((s.clearLatch n).plant.chan n).state = .faulted then .channelFault else .ok
        payload := clearFaultReply (s.clearLatch n) n }) := by
  simp [clearFault, channelOfNumber_byte, h]

/-- The latch of an inactive input is cleared (R126). -/
theorem clearFault_inactive (h : (s.plant.chan n).enabled = true) (hf : (s.plant.chan n).state = .faulted)
    (hlow : s.pins.faultLow[n] = false) :
    clearFault .supervisor [byte n.val] s = (s.setPlant (s.plant.setChan n (s.plant.chan n).cleared),
      .okWith ([byte n.val, 0, 0] ++ handleBytes s.plant.eng.binding[n])) := by
  have hoff : (s.plant.setChan n (s.plant.chan n).cleared).chan n = (s.plant.chan n).cleared := by
    rw [Plant.chan_setChan, if_pos rfl]
  rw [clearFault_enabled h, State.clearLatch_cleared hf hlow]
  simp only [clearFaultReply, State.setPlant_plant, State.setPlant_pins, hoff, hlow]
  rfl

/-- The latch of an active input stays (R126). -/
theorem clearFault_active (h : (s.plant.chan n).enabled = true) (hf : (s.plant.chan n).state = .faulted)
    (hlow : s.pins.faultLow[n] = true) :
    clearFault .supervisor [byte n.val] s =
      (s, ⟨.channelFault, [byte n.val, 4, 1] ++ handleBytes s.plant.eng.binding[n]⟩) := by
  rw [clearFault_enabled h, State.clearLatch_kept (.inr hlow)]
  simp only [clearFaultReply, hf, hlow]
  rfl

/-- A channel that is not FAULTED has no latch to clear (R126). -/
theorem clearFault_unlatched (h : (s.plant.chan n).enabled = true) (hf : (s.plant.chan n).state ≠ .faulted) :
    clearFault .supervisor [byte n.val] s =
      (s, .okWith ([byte n.val, (s.plant.chan n).state.code, flag s.pins.faultLow[n]]
        ++ handleBytes s.plant.eng.binding[n])) := by
  rw [clearFault_enabled h, State.clearLatch_kept (.inl hf), if_neg hf]
  rfl

end Enabled

end Sys2Proof.Machine

open Sys2Proof Sys2Proof.Machine in
/-- Settles O40: the refusals by their tests, and an enabled channel by its state and its input. -/
theorem clearFaultClearsAnInactiveLatchOnly : Obligations.ClearFaultClearsAnInactiveLatchOnly := by
  intro s hreset refused
  have hrefused {q : List Byte} {st : Status} (h : clearFault .supervisor q s = s.refuse st) : refused q st :=
    State.request_refused hreset (fun d hd => by cases hd) h
  refine ⟨fun q hq => hrefused (by simp [clearFault, hq]), fun b hb => hrefused ?field, ?channel⟩
  case field => simp [clearFault, byteAt_cons_zero, channelOfNumber_outside hb]
  case channel =>
    intro n c h
    have hbytes : handleBytes s.plant.eng.binding[n] = h := handleBytes_eq _
    have hexec {t : State} {b : BlockReply} (ht : clearFault .supervisor [byte n.val] s = (t, b)) :
        exec (.clearFault .supervisor [byte n.val]) s
          = .next (t.answered .clearFault .supervisor [byte n.val] b) := by
      change s.request .clearFault .supervisor [byte n.val] clearFault = _
      rw [State.request_supervisor hreset, ht]
    rw [← hbytes]
    exact ⟨fun hoff => hrefused (clearFault_disabled hoff), fun hon =>
      ⟨fun hf hlow => hexec (clearFault_inactive hon hf hlow), fun hf hlow => hexec (clearFault_active hon hf hlow),
        fun hf => hexec (clearFault_unlatched hon hf)⟩⟩
end

section
/-! Refused requests (R178): what each owning block leaves when the status it returns is not OK. -/

namespace Sys2Proof.Machine

/-- What a block returns for a request keeps the state unless its status is OK; for a RETRY, unless it is OK or
CHANNEL_FAULT (R124, R178). -/
def State.KeptIfRefused (s : State) (r : Request) (x : State × BlockReply) : Prop :=
  x.2.status ≠ .ok → (r = .retry → x.2.status ≠ .channelFault) → x.1 = s

section Forms
variable {s : State} {r : Request}

theorem State.KeptIfRefused.same (b : BlockReply) : s.KeptIfRefused r (s, b) := fun _ _ => rfl

theorem State.KeptIfRefused.refuse (st : Status) : s.KeptIfRefused r (s.refuse st) := .same _

theorem State.KeptIfRefused.accepted {t : State} {b : BlockReply} (h : b.status = .ok) : s.KeptIfRefused r (t, b) :=
  fun hn => absurd h hn

/-- A test of a request either refuses it, or the request goes on. -/
theorem State.KeptIfRefused.guard {c : Prop} [Decidable c] {st : Status} {x : State × BlockReply}
    (h : s.KeptIfRefused r x) : s.KeptIfRefused r (if c then s.refuse st else x) := by
  split
  next => exact .refuse st
  next => exact h

end Forms

/-! ### The requests on allotments -/

section Blocks
variable (s : State) (snd : Sender) (p : List Byte)

theorem claim_keptIfRefused : s.KeptIfRefused .claim (claim snd p s) := by
  unfold claim
  split
  next => exact .refuse _
  next =>
    refine .guard ?_
    split
    next => exact .refuse _
    next =>
      refine .guard (.guard ?_)
      split
      next => exact .same _
      next =>
        refine .guard (.guard ?_)
        split
        next => exact .refuse _
        next => exact .accepted rfl

theorem query_keptIfRefused : s.KeptIfRefused .query (query snd p s) := by
  unfold query
  split
  next => exact .refuse _
  next =>
    refine .guard ?_
    split
    next => exact .refuse _
    next => exact .accepted rfl

theorem reshape_keptIfRefused : s.KeptIfRefused .reshape (reshape snd p s) := by
  unfold reshape
  split
  next => exact .refuse _
  next =>
    refine .guard ?_
    split
    next => exact .refuse _
    next =>
      refine .guard ?_
      split
      next => exact .refuse _
      next =>
        refine .guard (.guard (.guard (.guard (.guard ?_))))
        split
        next => exact .same _
        next => exact .accepted rfl

theorem release_keptIfRefused : s.KeptIfRefused .release (release snd p s) := by
  unfold release
  split
  next => exact .refuse _
  next =>
    refine .guard ?_
    split
    next => exact .refuse _
    next => exact .accepted rfl

/-- The one status but OK after which a RETRY may have cleared latches is CHANNEL_FAULT (R124, R125). -/
theorem retry_keptIfRefused : s.KeptIfRefused .retry (retry snd p s) := by
  unfold retry
  refine .guard ?_
  split
  next => exact .refuse _
  next =>
    refine .guard ?_
    split
    next => exact .refuse _
    next =>
      refine .guard ?_
      simp only
      split
      next => exact fun _ hfault => absurd rfl (hfault rfl)
      next => exact .accepted rfl

theorem scan_keptIfRefused : s.KeptIfRefused .scan (scan snd p s) := by
  unfold scan
  split
  next => exact .refuse _
  next => exact .guard (.accepted rfl)

/-! ### The requests of clients (chapter 7) -/

theorem join_keptIfRefused : s.KeptIfRefused .join (join snd p s) := by
  unfold join
  split
  next => exact .refuse _
  next => exact .guard (.accepted rfl)

theorem leave_keptIfRefused : s.KeptIfRefused .leave (leave snd p s) := by
  unfold leave
  split
  next => exact .refuse _
  next =>
    split
    next => exact .refuse _
    next => exact .guard (.accepted rfl)

theorem ping_keptIfRefused : s.KeptIfRefused .ping (ping snd p s) := by
  unfold ping
  split
  next => exact .refuse _
  next =>
    refine .guard ?_
    split
    next => exact .accepted rfl
    next => exact .accepted rfl

/-! ### The requests of the supervisor -/

theorem setClient_keptIfRefused : s.KeptIfRefused .setClient (setClient snd p s) := by
  unfold setClient
  refine .guard (.guard (.guard ?_))
  simp only
  split
  next => exact .refuse _
  next => exact .accepted rfl

theorem setTiming_keptIfRefused : s.KeptIfRefused .setTiming (setTiming snd p s) := by
  unfold setTiming
  refine .guard (.guard (.guard ?_))
  split
  next => exact .accepted rfl
  next => exact .refuse _
  next => exact .refuse _

/-- A CLEAR_FAULT answered CHANNEL_FAULT has found its channel FAULTED and left it so (R126). -/
theorem clearFault_keptIfRefused : s.KeptIfRefused .clearFault (clearFault snd p s) := by
  unfold clearFault
  refine .guard (.guard ?_)
  split
  next => exact .refuse _
  next n _ =>
    refine .guard ?_
    by_cases hf : ((s.clearLatch n).plant.chan n).state = .faulted
    · exact fun _ _ => State.clearLatch_faulted hf
    · exact .accepted (if_neg hf)

/-- Every owning block keeps the state when it refuses (R178). -/
theorem blockOf_keptIfRefused (r : Request) : s.KeptIfRefused r (blockOf r snd p s) := by
  cases r with
  | claim => exact claim_keptIfRefused s snd p
  | query => exact query_keptIfRefused s snd p
  | reshape => exact reshape_keptIfRefused s snd p
  | release => exact release_keptIfRefused s snd p
  | retry => exact retry_keptIfRefused s snd p
  | scan => exact scan_keptIfRefused s snd p
  | join => exact join_keptIfRefused s snd p
  | leave => exact leave_keptIfRefused s snd p
  | ping => exact ping_keptIfRefused s snd p
  | setClient => exact setClient_keptIfRefused s snd p
  | setChannel => exact .guard (.guard (.guard (.guard (.accepted rfl))))
  | setTiming => exact setTiming_keptIfRefused s snd p
  | clearFault => exact clearFault_keptIfRefused s snd p
  | setLimits => exact .guard (.guard (.guard (.accepted rfl)))
  | setClasses => exact .guard (.guard (.guard (.accepted rfl)))
  | commit => exact .guard (.guard (.guard (.accepted rfl)))
  | halt => exact .guard (.guard (.guard (.accepted rfl)))
  | restart => exact .guard (.guard (.accepted rfl))

/-- A request outside reset is answered with what is returned for it, and a refusal has kept the state, the refusal of a
client slot in UNSET (log entry 12) among them. -/
theorem State.request_keptIfRefused (h : s.inReset = false) (r : Request) :
    ∃ x, s.KeptIfRefused r x ∧ s.request r snd p (blockOf r) = .next (x.1.answered r snd p x.2) := by
  refine ⟨_, ?_, State.taking_run h _⟩
  split
  next => exact .refuse _
  next => exact blockOf_keptIfRefused s snd p r

end Blocks

end Sys2Proof.Machine

open Sys2Proof Sys2Proof.Machine in
/-- Settles O18: the answer names the status returned, and by it the block has kept the state. -/
theorem refusedRequestChangesNothing : Obligations.RefusedRequestChangesNothing := by
  intro c r snd p s t b hreq hreset hexec hreturned hok hfault
  obtain ⟨⟨u, d⟩, hkept, hanswer⟩ := s.request_keptIfRefused snd p hreset r
  rw [exec_request hreq, hanswer] at hexec
  obtain rfl : u.answered r snd p d = t := Host.Outcome.next.inj hexec
  obtain rfl : d = b := Option.some.inj hreturned
  obtain rfl : u = s := hkept hok hfault
  rfl
end

section
/-! The reports of the engine to the client table (R136, R140), which most of its operations make: what they write of a
client's record, said once. -/

namespace Sys2Proof.Machine

/-! ### The reports of the engine (R136, R140) -/

/-- Reports of the engine write a client's claimed total and its retired count, which stays within 255, and nothing else
of its record (R136, R140). -/
def Client.Reported (x y : Client) : Prop :=
  y = { x with claimed := y.claimed, retired := y.retired }
    ∧ (x.retired ≤ Config.maxRetired → y.retired ≤ Config.maxRetired)

theorem Client.Reported.refl (x : Client) : x.Reported x := ⟨rfl, fun h => h⟩

theorem Client.Reported.trans {x y z : Client} (h : x.Reported y) (h' : y.Reported z) : x.Reported z :=
  ⟨by rw [h'.1, h.1], h'.2 ∘ h.2⟩

/-- The retired count is cleared when it has been read (R134, R142). -/
theorem Client.Reported.read (x : Client) : x.Reported { x with retired := 0 } := ⟨rfl, fun _ => Nat.zero_le _⟩

/-- Between `p` and `q` the clients have had nothing but reports of the engine. -/
def Plant.Reports (p q : Plant) : Prop := ∀ c, (p.client c).Reported (q.client c)

theorem Plant.Reports.refl (p : Plant) : p.Reports p := fun _ => .refl _

theorem Plant.Reports.trans {p q r : Plant} (h : p.Reports q) (h' : q.Reports r) : p.Reports r :=
  fun c => (h c).trans (h' c)

theorem Plant.Reports.ofClients {p q : Plant} (h : q.clients = p.clients) : p.Reports q := fun c => by
  have hc : q.client c = p.client c := by simp only [Plant.client, h]
  rw [hc]
  exact .refl _

theorem Plant.Reports.foldl {α : Type} {f : Plant → α → Plant} (h : ∀ (p : Plant) a, p.Reports (f p a)) (l : List α)
    (p : Plant) : p.Reports (l.foldl f p) := by
  induction l generalizing p with
  | nil => exact .refl p
  | cons a l ih => exact (h p a).trans (ih _)

/-! ### The operations of the engine -/

theorem Plant.passIf_reports (p : Plant) (eff : Nat) (o : Origin) (t : Bool) : p.Reports (p.passIf eff o t) :=
  .ofClients (p.passIf_chain eff o t).frame.2

theorem Plant.pass_reports {p : Plant} (he : p.eng.stage = none) (eff : Nat) (o : Origin) : p.Reports (p.pass eff o) :=
  .ofClients (Plant.pass_chain he).frame.2

theorem Plant.resolveSlot_reports (p : Plant) (eff : Nat) (i : SlotIx) : p.Reports (p.resolveSlot eff i) := by
  unfold Plant.resolveSlot
  simp only
  split
  · exact .ofClients (by simp [Plant.joinGrants, Plant.setStage])
  · exact .ofClients (by simp [Plant.setState, Plant.setAllot, Plant.setStage])

theorem Plant.settleStage_reports (p : Plant) (eff : Nat) (t : Bool) : p.Reports (p.settleStage eff t) := by
  unfold Plant.settleStage
  split
  next h _ =>
    split
    next => exact .refl p
    next =>
      exact (p.resolveSlot_reports eff h.slot).trans (Plant.pass_reports (p.resolveSlot_stage eff h.slot) eff .other)
  next he =>
    split
    next => exact Plant.pass_reports he eff .other
    next => exact .refl p

theorem Plant.retire_reports (p : Plant) (i : SlotIx) : p.Reports (p.retire i) := fun c => by
  rw [Plant.client_retire]
  refine ⟨rfl, fun h => ?_⟩
  simp only [Config.maxRetired] at h ⊢
  split <;> omega

theorem Plant.freeSlot_reports (p : Plant) (i : SlotIx) : p.Reports (p.freeSlot i) := fun c => by
  rw [Plant.client_freeSlot]
  exact ⟨rfl, id⟩

theorem Plant.adjustClaimed_reports (p : Plant) (o : Option ClientIx) (add sub : Nat) :
    p.Reports (p.adjustClaimed o add sub) := fun c => by
  cases o with
  | none => exact .refl _
  | some d =>
    rw [Plant.adjustClaimed, Plant.client_setClient]
    split
    next h => subst h; exact ⟨rfl, id⟩
    next => exact .refl _

theorem Plant.releaseOne_reports (p : Plant) (o : Origin) (retires : Bool) (i : SlotIx) :
    p.Reports (p.releaseOne o retires i) := fun c => by
  rw [Plant.client_releaseOne]
  refine ⟨rfl, fun h => ?_⟩
  simp only [Config.maxRetired] at h ⊢
  split <;> omega

theorem Plant.clientRelease_reports (p : Plant) (eff : Nat) (o : Origin) (retires : Bool) (c : ClientIx) :
    p.Reports (p.clientRelease eff o retires c) :=
  (Plant.Reports.foldl (fun q i => q.releaseOne_reports o retires i) _ p).trans (Plant.passIf_reports _ _ _ _)

theorem Plant.tripOne_reports (p : Plant) (i : SlotIx) : p.Reports (p.tripOne i) := by
  have cut : p.Reports (((p.cutAllotment i).setState i .tripped).markChanged .other i) := .ofClients (by
    rw [Plant.markChanged_clients]; rfl)
  unfold Plant.tripOne
  split
  · exact .refl p
  · exact .refl p
  · exact .ofClients (by rw [Plant.markChanged_clients]; rfl)
  · exact .ofClients (by rw [Plant.markChanged_clients]; rfl)
  · exact (Plant.Reports.ofClients (by rw [Plant.markChanged_clients]; rfl)).trans (Plant.freeSlot_reports _ i)
  all_goals exact cut

theorem Plant.faultActive_reports (p : Plant) (eff : Nat) (n : ChannelIx) : p.Reports (p.faultActive eff n) := by
  unfold Plant.faultActive
  split
  · exact .refl p
  refine (Plant.Reports.ofClients (q := p.latch n) rfl).trans ?_
  change (p.latch n).Reports ((p.latch n).faultReport eff n)
  unfold Plant.faultReport
  split
  · exact .refl _
  next h _ =>
    have ht := (p.latch n).tripOne_reports h.slot
    simp only
    split
    · exact ht
    · exact ht
    · exact ht
    · exact ht.trans (Plant.passIf_reports _ _ _ _)
    all_goals exact ht.trans (Plant.settleStage_reports _ _ _)

theorem Plant.expireRun_reports (p : Plant) (eff : Nat) (i : SlotIx) : p.Reports (p.expireRun eff i) := by
  have hfall : p.Reports (p.expired i) :=
    (Plant.Reports.ofClients (by simp [Plant.fallToFree, Plant.leaveQueue, Plant.setAllot])).trans
      (Plant.retire_reports _ i)
  exact hfall.trans (Plant.passIf_reports _ _ _ _)

theorem Plant.runTenth_reports (p : Plant) (eff : Nat) (i : SlotIx) : p.Reports (p.runTenth eff i) := by
  unfold Plant.runTenth
  simp only
  split
  · exact .refl p
  split
  · exact .refl p
  split
  · exact p.expireRun_reports eff i
  · exact .ofClients rfl

theorem Plant.endFall_reports (p : Plant) (i : SlotIx) (o : FallOutcome) : p.Reports (p.endFall i o) := by
  cases o with
  | free =>
    exact (Plant.Reports.ofClients (by rw [Plant.markChanged_clients]; rfl)).trans (Plant.freeSlot_reports _ i)
  | waiting | reduced | running => exact .ofClients (by simp only [Plant.endFall]; rw [Plant.markChanged_clients]; rfl)

theorem Plant.settle_reports (p : Plant) (eff : Nat) (i : SlotIx) : p.Reports (p.settle eff i) := by
  unfold Plant.settle
  split
  · exact (p.endFall_reports i .running).trans (Plant.passIf_reports _ _ _ _)
  · exact (p.endFall_reports i _).trans (Plant.settleStage_reports _ _ _)
  all_goals exact .refl p

theorem Plant.takeReport_reports (p : Plant) (eff : Nat) (r : Report) : p.Reports (p.takeReport eff r) := by
  unfold Plant.takeReport
  split
  · exact .refl p
  simp only
  split
  · split
    · exact (Plant.Reports.ofClients rfl).trans (Plant.settle_reports _ eff _)
    · exact .ofClients rfl
  · exact .refl p

theorem Plant.reshapeAccepted_reports (p : Plant) (i : SlotIx) (ds : List Nat) :
    p.Reports (p.reshapeAccepted i ds) := by
  have hstore : p.Reports (p.storeReshape i ds) :=
    (Plant.Reports.ofClients (Plant.setAllot_clients p i _)).trans (Plant.adjustClaimed_reports _ _ _ _)
  unfold Plant.reshapeAccepted
  simp only
  split
  · exact hstore
  split
  · exact .refl p
  · exact hstore.trans (.ofClients (Plant.startTransition_clients _ _ _ _))

theorem Plant.createAllotment_reports (p : Plant) (c : ClientIx) (payload : List Byte) (i : SlotIx) :
    p.Reports (p.createAllotment c payload i) := by
  have hwrite (q : Plant) (hq : q.clients = p.clients) : p.Reports ((q.adjustClaimed (some c)
      (p.requestCostOf (claimTerms payload)) 0).queueBack i) :=
    (Plant.Reports.ofClients hq).trans ((q.adjustClaimed_reports _ _ _).trans (.ofClients rfl))
  exact hwrite _ rfl

theorem cutWalk_reports (eff : Nat) (l : List Handle) (p : Plant) : p.Reports (cutWalk eff l p) := by
  induction l generalizing p with
  | nil => exact .refl p
  | cons h rest ih =>
    unfold cutWalk
    split
    · exact .refl p
    · refine Plant.Reports.trans (fun c => ?_) (ih _)
      rw [Plant.client_hardCutOne]
      exact ⟨rfl, id⟩

theorem Plant.ceilingReport_reports (p : Plant) (old new : Nat) : p.Reports (p.ceilingReport old new) := by
  unfold Plant.ceilingReport
  split
  · exact p.passIf_reports new .other true
  split
  · exact .refl p
  · exact (cutWalk_reports new _ p).trans (Plant.settleStage_reports _ new true)

theorem State.recompute_reports (s : State) : s.plant.Reports s.recompute.plant := by
  unfold State.recompute
  simp only
  split
  · exact .refl _
  · exact s.plant.ceilingReport_reports _ _

theorem Plant.halt_reports (p : Plant) : p.Reports p.halt := by
  have hone (q : Plant) (i : SlotIx) : q.Reports (q.haltOne i) := by
    rw [Plant.haltOne_eq]
    refine Plant.Reports.trans ?_ (Plant.freeSlot_reports _ i)
    unfold Plant.haltReported
    split
    · exact .refl q
    · exact q.retire_reports i
  exact (Plant.Reports.foldl hone p.inUse p).trans (.ofClients rfl)

theorem State.clearLatch_reports (s : State) (n : ChannelIx) : s.plant.Reports (s.clearLatch n).plant := by
  unfold State.clearLatch
  split
  · exact .ofClients rfl
  · exact .refl _

theorem State.clearLatches_reports (ts : List Term) (s : State) : s.plant.Reports (s.clearLatches ts).plant := by
  induction ts generalizing s with
  | nil => exact .refl _
  | cons t ts ih => exact (s.clearLatch_reports t.channel).trans (ih _)

theorem Plant.retryAccepted_reports (p : Plant) (eff : Nat) (o : Origin) (i : SlotIx) :
    p.Reports (p.retryAccepted eff o i) :=
  (Plant.Reports.ofClients (q := p.requeued o i) (by simp [Plant.requeued, Plant.setAllot])).trans
    (Plant.passIf_reports _ _ _ _)

theorem Plant.setLevels_reports (p : Plant) (eff : Nat) (levels : Vector (Fin 4) 6) :
    p.Reports (p.setLevels eff levels) := by
  unfold Plant.setLevels
  split
  · exact .refl p
  · exact (Plant.Reports.ofClients (q := p.relevelled levels) rfl).trans (Plant.passIf_reports _ _ _ _)

end Sys2Proof.Machine
end

section
/-! What a command makes of each client's record, said once: reports of the engine, one of the writes of chapter 7, or
the reset value. -/

namespace Sys2Proof.Machine

/-! ### The kinds of change -/

/-- What a command from the state `s` to the plant `q` makes of the record of client `c`. -/
inductive State.ClientChange (s : State) (q : Plant) (c : ClientIx) : Prop
  | reported (h : (s.plant.client c).Reported (q.client c))
  /-- R131. -/
  | restarted (hact : (s.plant.client c).state = .active) (hw : 0 < (s.plant.client c).window)
      (h : q.client c = { s.plant.client c with timer := windowTimer (s.plant.client c).window })
  /-- R134: a JOIN from IDLE or LAPSED. -/
  | activated (hset : (s.plant.client c).state ≠ .unset)
      (h : q.client c = { (s.plant.client c).activated with retired := 0 })
  /-- R135, R138: a LEAVE or a lapse, after which the client owns only falls to FREE. -/
  | departed (x : Client) (st : ClientState) (hact : (s.plant.client c).state = .active)
      (hst : st = .idle ∨ st = .lapsed) (hx : (s.plant.client c).Reported x)
      (h : q.client c = { x with state := st, timer := none })
      (hleft : ∀ j, (q.allot j).state ≠ .free → (q.allot j).owner = some c → (q.allot j).state = .falling .free)
  /-- R133. -/
  | configured (id : Byte) (quota window : Nat) (alert : Bool) (ht : s.setClientTest c id quota = none)
      (h : q.client c = (s.plant.client c).configure id quota window alert)
  /-- R175. -/
  | reset (h : q = Plant.reset)

/-- What a command from the state `s` to the plant `q` makes of every client's record. -/
def State.ChangesClients (s : State) (q : Plant) : Prop := ∀ c, s.ClientChange q c

section Forms
variable {s : State}

theorem State.ChangesClients.ofReports {q : Plant} (h : s.plant.Reports q) : s.ChangesClients q :=
  fun c => .reported (h c)

theorem State.ChangesClients.same : s.ChangesClients s.plant := .ofReports (.refl _)

theorem State.ChangesClients.reset {q : Plant} (h : q = Plant.reset) : s.ChangesClients q := fun _ => .reset h

/-- A write of one client's record over reports of the engine. -/
theorem State.ChangesClients.ofWrite {p : Plant} {c : ClientIx} {x : Client} (hp : s.plant.Reports p)
    (hc : s.ClientChange (p.setClient c x) c) : s.ChangesClients (p.setClient c x) := fun d => by
  by_cases hd : d = c
  · rw [hd]
    exact hc
  · refine .reported ?_
    rw [Plant.client_setClient, if_neg hd]
    exact hp d

/-- A test of a request either refuses it, and nothing changes, or the request goes on (R178). -/
theorem State.ChangesClients.guard {c : Prop} [Decidable c] {st : Status} {x : State × BlockReply}
    (h : ¬c → s.ChangesClients x.1.plant) : s.ChangesClients (if c then s.refuse st else x).1.plant := by
  split
  next => exact .same
  next hc => exact h hc

/-- An event that a part held in reset does not take. -/
theorem State.ChangesClients.ofTaking {t : State} {f : State → State} (h : s.taking f = .next t)
    (hf : s.ChangesClients (f s).plant) : s.ChangesClients t.plant := by
  cases h
  split
  next => exact .same
  next => exact hf

/-- A choice whose other branch leaves the state as it is. -/
theorem State.ChangesClients.orSame {c : Prop} [Decidable c] {t : State} (h : c → s.ChangesClients t.plant) :
    s.ChangesClients (if c then t else s).plant := by
  split
  next hc => exact h hc
  next => exact .same

/-- The end of a read phase resets the part or leaves it to what follows (R165). -/
theorem State.ChangesClients.orRestart {t : State} (h : t.plant = s.plant) :
    s.ChangesClients (s.orRestart t).plant := by
  unfold State.orRestart
  split
  next => exact .reset rfl
  next => rw [h]; exact .same

end Forms

/-! ### The requests on allotments -/

section Requests
variable (s : State) (snd : Sender) (p : List Byte)

theorem claim_clients : s.ChangesClients (claim snd p s).1.plant := by
  unfold claim
  split
  next => exact .same
  next c =>
    refine .guard fun _ => ?_
    split
    next => exact .same
    next =>
      refine .guard fun _ => .guard fun _ => ?_
      split
      next => exact .same
      next =>
        refine .guard fun _ => .guard fun _ => ?_
        split
        next => exact .same
        next i _ => exact .ofReports ((s.plant.createAllotment_reports c p i).trans (Plant.passIf_reports _ _ _ _))

theorem query_clients : s.ChangesClients (query snd p s).1.plant := by
  unfold query
  split
  next => exact .same
  next =>
    refine .guard fun _ => ?_
    split
    next => exact .same
    next =>
      refine .ofReports ?_
      change s.plant.Reports (if _ then _ else _)
      split
      next => exact .ofClients rfl
      next => exact .refl _

theorem reshape_clients : s.ChangesClients (reshape snd p s).1.plant := by
  unfold reshape
  split
  next => exact .same
  next =>
    refine .guard fun _ => ?_
    split
    next => exact .same
    next =>
      refine .guard fun _ => ?_
      split
      next => exact .same
      next i _ =>
        refine .guard fun _ => .guard fun _ => .guard fun _ => .guard fun _ => .guard fun _ => ?_
        split
        next => exact .same
        next => exact .ofReports (s.plant.reshapeAccepted_reports i _)

theorem release_clients : s.ChangesClients (release snd p s).1.plant := by
  unfold release
  split
  next => exact .same
  next =>
    refine .guard fun _ => ?_
    split
    next => exact .same
    next i _ => exact .ofReports ((s.plant.releaseOne_reports _ _ i).trans (Plant.passIf_reports _ _ _ _))

theorem retry_clients : s.ChangesClients (retry snd p s).1.plant := by
  unfold retry
  refine .guard fun _ => ?_
  split
  next => exact .same
  next =>
    refine .guard fun _ => ?_
    split
    next => exact .same
    next i _ =>
      refine .guard fun _ => ?_
      have hclear := State.clearLatches_reports (s.plant.allot i).terms s
      simp only
      split
      next => exact .ofReports hclear
      next => exact .ofReports (hclear.trans (Plant.retryAccepted_reports _ _ _ _))

theorem scan_clients : s.ChangesClients (scan snd p s).1.plant := by
  unfold scan
  split
  next => exact .same
  next =>
    refine .guard fun _ => .ofReports ?_
    change s.plant.Reports (if _ then _ else _)
    split
    next => exact Plant.Reports.foldl (fun q i => .ofClients (q.clearChanged_clients i)) _ _
    next => exact .refl _

theorem setClasses_clients : s.ChangesClients (setClasses snd p s).1.plant :=
  .guard fun _ => .guard fun _ => .guard fun _ => .ofReports (s.plant.setLevels_reports _ _)

/-! ### The requests of clients (chapter 7) -/

/-- JOIN releases the allotments of an ACTIVE client, whose record keeps its state, and activates any other (R134). -/
theorem join_clients (hk : ∀ c, snd = .client c → (s.plant.client c).state ≠ .unset) :
    s.ChangesClients (join snd p s).1.plant := by
  unfold join
  split
  next => exact .same
  next c =>
    refine .guard fun _ => ?_
    change s.ChangesClients ((s.plant.joined s.lim.effective c).setClient c _)
    by_cases hact : (s.plant.client c).state = .active
    · have hrel := s.plant.clientRelease_reports s.lim.effective (.ownerAll c) false c
      rw [Plant.joined, if_pos hact]
      refine .ofWrite hrel (.reported ?_)
      rw [Plant.client_setClient_self]
      exact (hrel c).trans (.read _)
    · rw [Plant.joined, if_neg hact, Plant.client_setClient_self, Plant.setClient_setClient]
      exact .ofWrite (.refl _) (.activated (hk c rfl) (Plant.client_setClient_self _ _ _))

theorem State.active_of_notActive {s : State} {c : ClientIx} (h : s.notActive (.client c) = none) :
    (s.plant.client c).state = .active := by
  simp only [State.notActive] at h
  split at h <;> simp_all

/-- A client that leaves ACTIVE has had its allotments released (R94, R135, R138). -/
theorem State.departed_clients {c : ClientIx} (hact : (s.plant.client c).state = .active) (lapse : Bool)
    {st : ClientState} (hst : st = .idle ∨ st = .lapsed) : s.ChangesClients
      ((s.plant.clientRelease s.lim.effective (releaseOrigin c lapse) lapse c).deactivate c st) :=
  .ofWrite (s.plant.clientRelease_reports _ _ _ _)
    (.departed _ st hact hst (s.plant.clientRelease_reports _ _ _ _ c) (Plant.client_setClient_self _ _ _)
      fun _ hf ho => Plant.clientRelease_leaves hf ho)

theorem leave_clients : s.ChangesClients (leave snd p s).1.plant := by
  unfold leave
  split
  next => exact .same
  next c =>
    split
    next => exact .same
    next hact => exact .guard fun _ => s.departed_clients (State.active_of_notActive hact) false (.inl rfl)

theorem ping_clients : s.ChangesClients (ping snd p s).1.plant := by
  unfold ping
  split
  next => exact .same
  next =>
    refine .guard fun _ => ?_
    cases snd with
    | supervisor => exact .same
    | client c =>
      refine .ofWrite (.refl _) (.reported ?_)
      rw [Plant.client_setClient_self]
      exact .read _

theorem setClient_clients : s.ChangesClients (setClient snd p s).1.plant := by
  unfold setClient
  refine .guard fun _ => .guard fun _ => .guard fun _ => ?_
  simp only
  split
  next => exact .same
  next ht => exact .ofWrite (.refl _) (.configured _ _ _ _ ht (Plant.client_setClient_self _ _ _))

/-! ### The requests of the supervisor -/

theorem setTiming_clients : s.ChangesClients (setTiming snd p s).1.plant := by
  unfold setTiming
  refine .guard fun _ => .guard fun _ => .guard fun _ => ?_
  split
  next => exact .ofReports (.ofClients rfl)
  next => exact .same
  next => exact .same

theorem clearFault_clients : s.ChangesClients (clearFault snd p s).1.plant := by
  unfold clearFault
  refine .guard fun _ => .guard fun _ => ?_
  split
  next => exact .same
  next n _ => exact .guard fun _ => .ofReports (s.clearLatch_reports n)

/-- What each owning block makes of the clients' records, for a sender that is no client slot in UNSET. -/
theorem blockOf_clients (hk : ∀ c, snd = .client c → (s.plant.client c).state ≠ .unset) (r : Request) :
    s.ChangesClients (blockOf r snd p s).1.plant := by
  cases r with
  | claim => exact claim_clients s snd p
  | query => exact query_clients s snd p
  | reshape => exact reshape_clients s snd p
  | release => exact release_clients s snd p
  | retry => exact retry_clients s snd p
  | scan => exact scan_clients s snd p
  | join => exact join_clients s snd p hk
  | leave => exact leave_clients s snd p
  | ping => exact ping_clients s snd p
  | setClient => exact setClient_clients s snd p
  | setChannel => exact .guard fun _ => .guard fun _ => .guard fun _ => .guard fun _ => .ofReports (.ofClients rfl)
  | setTiming => exact setTiming_clients s snd p
  | clearFault => exact clearFault_clients s snd p
  | setLimits => exact .guard fun _ => .guard fun _ => .guard fun _ => .ofReports (State.recompute_reports _)
  | setClasses => exact setClasses_clients s snd p
  | commit => exact .guard fun _ => .guard fun _ => .guard fun _ => .ofReports (State.recompute_reports _)
  | halt => exact .guard fun _ => .guard fun _ => .guard fun _ => .ofReports s.plant.halt_reports
  | restart => exact .guard fun _ => .guard fun _ => .same

/-- A request's row, whoever sends it (R158; log entry 12). -/
theorem request_clients (r : Request) {t : State} (h : s.request r snd p (blockOf r) = .next t) :
    s.ChangesClients t.plant := by
  refine .ofTaking h ?_
  simp only
  split
  next => exact .same
  next hk =>
    refine blockOf_clients s snd p (fun c hc hu => hk ?_) r
    rw [hc, State.unknownSender, hu]
    rfl

end Requests

/-! ### The events -/

theorem State.endWritePhase_clients (s : State) (e : PhaseEnd) : s.ChangesClients (s.endWritePhase e).plant := by
  have hplant : (s.endWritePhase e).plant = (s.examine s.port.buffer s.port.overLength).1 := by
    unfold State.endWritePhase
    simp only
    split <;> rfl
  rw [hplant]
  unfold State.examine
  simp only
  split
  next => exact .same
  split
  next => exact .same
  next snd _ =>
    change s.ChangesClients (s.plant.restartWindow snd)
    unfold Plant.restartWindow
    split
    next => exact .same
    next c =>
      split
      next hc => exact .ofWrite (.refl _) (.restarted hc.1 hc.2 (Plant.client_setClient_self _ _ _))
      next => exact .same

theorem State.beginBareRead_plant (s : State) : s.beginBareRead.plant = s.plant := by
  unfold State.beginBareRead
  simp only
  split <;> rfl

theorem State.endReadPhase_clients (s : State) (e : PhaseEnd) : s.ChangesClients (s.endReadPhase e).plant := by
  refine .orRestart ?_
  cases e with
  | restartRead => exact State.beginBareRead_plant _
  | restartWrite | restartOther | stop => rfl

theorem State.takeReplyInHand_clients (s : State) (reply : List Byte) :
    s.ChangesClients (s.takeReplyInHand reply).plant := by
  unfold State.takeReplyInHand
  simp only
  split
  next => exact .same
  split
  next => exact .reset rfl
  next => split <;> exact .same

theorem State.derateFalls_reports (s : State) : s.plant.Reports s.derateFalls.plant := by
  unfold State.derateFalls
  split
  next => exact State.recompute_reports _
  next => exact .refl _
  next => exact .refl _

theorem State.derateRises_reports (s : State) : s.plant.Reports s.derateRises.plant := by
  unfold State.derateRises
  split
  next =>
    split
    next => exact State.recompute_reports _
    next => exact .refl _
  next => exact .refl _
  next => exact .refl _

theorem State.onOutput_reports (s : State) (f : OutputStage → OutputStage) : s.plant.Reports (s.onOutput f).plant :=
  .ofClients rfl

/-- Whether an event is taken or not, the clients have had reports only. -/
theorem State.taking_reports {s t : State} {f : State → State} (hf : s.plant.Reports (f s).plant)
    (h : s.taking f = .next t) : s.plant.Reports t.plant := by
  cases h
  split
  next => exact .refl _
  next => exact hf

theorem exec_clients {cmd : Instr} {s t : State} (h : exec cmd s = .next t) : s.ChangesClients t.plant := by
  cases hreq : requestOf cmd with
  | some x =>
    obtain ⟨r, snd, p⟩ := x
    exact request_clients s snd p r ((exec_request hreq s).symm.trans h)
  | none =>
    cases cmd with
    | restartReset => exact .ofTaking h (.orSame fun _ => .reset rfl)
    | startOwnWrite => exact .ofTaking h (.orSame fun _ => .same)
    | writeByte b => exact .ofTaking h (.orSame fun _ => .same)
    | writePhaseEnd e => exact .ofTaking h (.orSame fun _ => s.endWritePhase_clients e)
    | replyInHand =>
      change execReplyInHand s = .next t at h
      unfold execReplyInHand at h
      refine .ofTaking h ?_
      split
      next => exact .same
      next reply _ => exact s.takeReplyInHand_clients reply
    | bareRead =>
      change execBareRead s = .next t at h
      unfold execBareRead at h
      refine .ofTaking h ?_
      split
      next => rw [State.beginBareRead_plant]; exact .same
      next => exact .orSame fun _ => s.endReadPhase_clients _
    | readByteAck a => exact .ofTaking h (.orSame fun _ => .same)
    | readPhaseEnd e => exact .ofTaking h (.orSame fun _ => s.endReadPhase_clients e)
    | busError => exact .ofTaking h (.orSame fun _ => .orRestart rfl)
    | exchangeTimerExpiry => exact .ofTaking h (.orSame fun _ => .orRestart rfl)
    | deratenFalls =>
      change execDeratenFalls s = .next t at h
      unfold execDeratenFalls at h
      split at h
      next => cases h; exact .same
      next => exact .ofReports ((s.setDerateLow true).taking_reports (State.derateFalls_reports _) h)
    | deratenRises =>
      change execDeratenRises s = .next t at h
      unfold execDeratenRises at h
      split at h
      next => exact .ofReports ((s.setDerateLow false).taking_reports (State.derateRises_reports _) h)
      next => cases h; exact .same
    | holdExpiry => exact .ofTaking h (.orSame fun _ => .ofReports (State.recompute_reports _))
    | faultInputActive n =>
      change execFaultInputActive n s = .next t at h
      unfold execFaultInputActive at h
      split at h
      next => cases h; exact .same
      next =>
        refine .ofReports (State.taking_reports (s := s.setFaultLow n true) ?_ h)
        split
        next => exact Plant.faultActive_reports _ _ _
        next => exact .refl _
    | faultInputInactive n => cases h; exact .same
    | resetnFalls =>
      change execResetnFalls s = .next t at h
      unfold execResetnFalls at h
      split at h
      next => cases h; exact .reset rfl
      next => cases h; exact .same
    | resetnRises =>
      change execResetnRises s = .next t at h
      unfold execResetnRises at h
      split at h
      next => cases h; exact .same
      next =>
        simp only at h
        split at h
        next => cases h; exact .same
        next => cases h; exact .reset rfl
    | supplyValid => cases h; exact .same
    | supplyFailure =>
      change execSupplyFailure s = .next t at h
      unfold execSupplyFailure at h
      split at h
      next => cases h; exact .reset rfl
      next => cases h; exact .same
    | startupEnd =>
      change execStartupEnd s = .next t at h
      unfold execStartupEnd at h
      split at h
      next => cases h; exact .reset rfl
      next => cases h; exact .same
    | frameStart =>
      change execFrameStart s = .next t at h
      unfold execFrameStart at h
      exact .ofTaking h (.ofReports (s.onOutput_reports _))
    | stepFrameStart =>
      change execStepFrameStart s = .next t at h
      unfold execStepFrameStart at h
      exact .ofTaking h (.ofReports (s.onOutput_reports _))
    | settledReport n =>
      change execSettledReport n s = .next t at h
      unfold execSettledReport at h
      refine .ofTaking h ?_
      split
      next => exact .same
      next r _ => exact .ofReports ((Plant.Reports.ofClients rfl).trans (Plant.takeReport_reports _ _ r))
    | runTimerTenth i =>
      change execRunTimerTenth i s = .next t at h
      unfold execRunTimerTenth at h
      exact .ofTaking h (.ofReports (s.plant.runTenth_reports _ i))
    | runLimitExpiry i => exact .ofTaking h (.orSame fun _ => .ofReports (s.plant.expireRun_reports _ i))
    | windowExpiry c => exact .ofTaking h (.orSame fun hc => s.departed_clients hc.1 true (.inr rfl))
    | frameCountAdvance =>
      change execFrameCountAdvance s = .next t at h
      unfold execFrameCountAdvance at h
      exact .ofTaking h (.ofReports (s.onOutput_reports _))
    | _ => cases hreq

/-- What a step makes of every client's record: it idles, or carries out the front command with the queue's rest. -/
theorem step_clients {s t : State} (h : step s = .next t) : s.ChangesClients t.plant := by
  unfold step at h
  split at h
  next => cases h; exact .same
  next c rest _ =>
    intro d
    cases exec_clients h d with
    | reported h => exact .reported h
    | restarted hact hw h => exact .restarted hact hw h
    | activated hset h => exact .activated hset h
    | departed x st hact hst hx h hleft => exact .departed x st hact hst hx h hleft
    | configured id quota window alert ht h => exact .configured id quota window alert ht h
    | reset h => exact .reset h

end Sys2Proof.Machine
end

section
/-! Clients that are not present (R130): no step takes an allotment out of FALLING/FREE but to FREE, a new one is an
ACTIVE client's, and a client leaves ACTIVE with falls to FREE only. -/

namespace Sys2Proof.Machine

/-! ### An allotment released for good -/

/-- From the record `a` to `b`: the same owner, and FREE and FALLING/FREE only go on to FREE. -/
structure Allotment.Onward (a b : Allotment) : Prop where
  owner : b.owner = a.owner
  free : a.state = .free → b.state = .free
  falls : a.state = .falling .free → b.state = .falling .free ∨ b.state = .free

theorem Allotment.Onward.refl (a : Allotment) : a.Onward a := ⟨rfl, fun h => h, .inl⟩

theorem Allotment.Onward.trans {a b c : Allotment} (h : a.Onward b) (h' : b.Onward c) : a.Onward c :=
  ⟨h'.owner.trans h.owner, h'.free ∘ h.free, fun ha => (h.falls ha).elim h'.falls fun hb => .inr (h'.free hb)⟩

theorem Allotment.Onward.ofState {a b : Allotment} (ho : b.owner = a.owner) (hs : b.state = a.state) : a.Onward b :=
  ⟨ho, fun h => hs.trans h, fun h => .inl (hs.trans h)⟩

/-- In any other state an event may do what it does. -/
theorem Allotment.Onward.ofLive {a b : Allotment} (ho : b.owner = a.owner) (hr : a.state.releasable = true) :
    a.Onward b :=
  ⟨ho, fun h => by simp [h, AllotState.releasable] at hr, fun h => by simp [h, AllotState.releasable] at hr⟩

theorem Allotment.Onward.freed (a : Allotment) : a.Onward a.freed := ⟨rfl, fun _ => rfl, fun _ => .inr rfl⟩

/-- Every record of `q` is onward from that of `p`. -/
def Plant.Onward (p q : Plant) : Prop := ∀ j, (p.allot j).Onward (q.allot j)

theorem Plant.Onward.ofSame {p q : Plant} (h : ∀ j, q.allot j = p.allot j) : p.Onward q := fun j => by
  rw [h j]
  exact .refl _

/-- An event of one slot. -/
theorem Plant.Onward.update {p q : Plant} {i : SlotIx} {a : Allotment}
    (ha : ∀ j, q.allot j = if j = i then a else p.allot j) (h : (p.allot i).Onward a) : p.Onward q := fun j => by
  rw [ha]
  split
  next hj => rw [hj]; exact h
  next => exact .refl _

theorem AllotState.releasable_of_sheddable {st : AllotState} (h : st.sheddable = true) : st.releasable = true := by
  cases st <;> simp_all [AllotState.sheddable, AllotState.releasable]

theorem AllotState.releasable_of_runs {st : AllotState} (h : st.runs = true) : st.releasable = true := by
  cases st <;> simp_all [AllotState.runs, AllotState.releasable]

/-! ### The acts -/

theorem Plant.PassAct.onward {eff : Nat} {o : Origin} {p q : Plant} (h : Plant.PassAct eff o p q) (hp : p.listsOk) :
    p.Onward q := by
  cases h with
  | topUp i hs => exact .update (p.allot_topUp o i) (.ofLive rfl (by rw [hs]; rfl))
  | grant i hs =>
    exact .update (fun j => (p.allot_grant o i j).trans (p.allot_topUp o i j)) (.ofLive rfl (by rw [hs]; rfl))
  | reduce i _ _ hs => exact .update (p.allot_reduceVictim o i) (.ofLive rfl (by rw [hs hp.distinct]; rfl))
  | shed i _ hs =>
    exact .update (p.allot_shedVictim o i) (.ofLive rfl (AllotState.releasable_of_sheddable (hs hp.distinct)))
  | stage i hs => exact .update (p.allot_stageEntry o i) (.ofLive rfl (by rw [hs]; rfl))

theorem Allotment.Onward.ofFallen {a : Allotment} {o : FallOutcome} (hs : a.state = .falling o) :
    a.Onward (a.fallen o) := by
  cases o with
  | free => exact .freed a
  | waiting | reduced | running => exact .ofLive rfl (by rw [hs]; rfl)

theorem Allotment.Onward.ofTrip (a : Allotment) : a.Onward a.trippedFrom := by
  unfold Allotment.trippedFrom
  split
  next => exact .refl a
  next => exact .refl a
  next h => exact .ofLive rfl (by rw [h]; rfl)
  next h => exact .ofLive rfl (by rw [h]; rfl)
  next => exact .freed a
  all_goals
    next h => exact .ofLive rfl (by rw [h]; rfl)

theorem Allotment.Onward.ofHardCut {a : Allotment} (hg : a.state.granted = true) : a.Onward a.hardCut := by
  unfold Allotment.hardCut
  split
  next => exact .freed a
  next hf => exact .ofLive rfl (by
    rw [AllotState.releasable_eq (AllotState.ne_free_of_granted hg)]
    exact decide_eq_true hf)

theorem Plant.releasedRecord_onward (p : Plant) (lapse : Bool) (a : Allotment) :
    a.Onward (p.releasedRecord lapse a) := by
  rcases a.state.release_cases with h | h | h
  · rw [Plant.releasedRecord_still h]
    exact .refl a
  · rw [Plant.releasedRecord_idle h]
    exact .freed a
  · obtain ⟨hg, hf⟩ := AllotState.driven_iff.mp h
    rw [Plant.releasedRecord_driven h]
    exact .ofLive rfl (by
      rw [AllotState.releasable_eq (AllotState.ne_free_of_granted hg)]
      exact decide_eq_true hf)

theorem Plant.reshapedRecord_owner (p : Plant) (a : Allotment) (ds : List Nat) :
    (p.reshapedRecord a ds).owner = a.owner := by
  unfold Plant.reshapedRecord
  split_ifs <;> rfl

/-- Every act takes the records onward, where the lists are exact: a victim of a plan is RISING, RUNNING or REDUCED, and
the stage names a STAGED allotment (R49, R59, R60, R62). -/
theorem Plant.Act.onward {eff : Nat} {p q : Plant} (h : Plant.Act eff p q) (hp : p.listsOk) : p.Onward q := by
  cases h with
  | pass h => exact h.onward hp
  | resolve h hs =>
    refine .update (p.allot_resolveSlot eff h.slot) (.ofLive ?_ (by rw [hp.staged hs]; rfl))
    split <;> rfl
  | unflag i => exact .update (p.allot_setAllot i · _) (.ofState rfl rfl)
  | dropReport n => exact .ofSame fun _ => rfl
  | takeReport n r h => exact .update ((p.withoutReport n).allot_setAllot h.slot · _) (.ofState rfl rfl)
  | endRise i hs => exact .update (p.allot_endRise i) (.ofLive rfl (by rw [hs]; rfl))
  | endFall i o hs => exact .update (p.allot_endFall i o) (.ofFallen hs)
  | release o retires i => exact .update (p.allot_releaseOne o retires i) (p.releasedRecord_onward _ _)
  | latch n => exact .ofSame fun _ => rfl
  | trip n h => exact .update ((p.latch n).allot_tripOne h.slot) (.ofTrip _)
  | runTick i r => exact .update (p.allot_setAllot i · _) (.ofState rfl rfl)
  | expire i hs => exact .update (p.allot_expired i) (.ofLive rfl (AllotState.releasable_of_runs hs))
  | reshape i ds _ _ hs =>
    exact .update (p.allot_reshapeAccepted i · ds) (.ofLive (p.reshapedRecord_owner _ ds) (by
      rcases hs with hs | hs <;> rw [hs] <;> rfl))
  | clearLatch n => exact .ofSame fun _ => rfl
  | retry o i hs => exact .update (p.allot_requeued o i) (.ofLive rfl (by rw [hs]; rfl))
  | client c x => exact .ofSame fun _ => rfl
  | levels levels => exact .ofSame fun _ => rfl
  | output o => exact .ofSame fun _ => rfl

theorem Plant.Acts.onward {eff : Nat} {p q : Plant} (h : Plant.Acts eff p q) (hp : p.listsOk) : p.Onward q := by
  induction h with
  | refl => exact fun j => .refl _
  | tail hc ha ih => exact fun j => (ih j).trans (ha.onward (Plant.Acts.listsOk hc hp) j)

/-! ### The hard cut (R37, R38) -/

theorem cutWalk_onward {eff : Nat} (l : List Handle) {p : Plant} (hn : (l.map Handle.slot).Nodup)
    (hg : ∀ h ∈ l, (p.allot h.slot).state.granted = true) : p.Onward (cutWalk eff l p) := by
  induction l generalizing p with
  | nil => exact fun j => .refl _
  | cons h rest ih =>
    unfold cutWalk
    split
    · exact fun j => .refl _
    rw [List.map_cons, List.nodup_cons] at hn
    have hcut : p.Onward (p.hardCutOne h.slot) :=
      .update (p.allot_hardCutOne h.slot) (.ofHardCut (hg h List.mem_cons_self))
    refine fun j => (hcut j).trans (ih hn.2 (fun g hgr => ?_) j)
    rw [Plant.granted_hardCutOne, if_neg fun he : g.slot = h.slot => hn.1 (he ▸ List.mem_map_of_mem hgr)]
    exact hg g (List.mem_cons_of_mem _ hgr)

theorem Plant.ceilingReport_onward {p : Plant} (hp : p.listsOk) (old new : Nat) :
    p.Onward (p.ceilingReport old new) := by
  unfold Plant.ceilingReport
  split
  · exact (p.passIf_acts new .other true).onward hp
  split
  · exact fun j => .refl _
  · obtain ⟨hn, hslots⟩ := Plant.cutOrder_slots hp
    have hg : ∀ h ∈ p.cutOrder, (p.allot h.slot).state.granted = true :=
      fun h hh => (hslots h.slot).mp (List.mem_map_of_mem hh)
    exact fun j => (cutWalk_onward (eff := new) _ hn hg j).trans
      ((Plant.settleStage_acts _ new true).onward (cutWalk_listsOk _ hp hn hg) j)

theorem State.recompute_onward {s : State} (hp : s.plant.listsOk) : s.plant.Onward s.recompute.plant := by
  unfold State.recompute
  simp only
  split
  · exact fun j => .refl _
  · exact Plant.ceilingReport_onward hp _ _

/-! ### Every kind of step -/

/-- An allotment in use after a step is a new one of an ACTIVE client, or its slot's record has gone onward (R19). -/
theorem State.Effect.onward {s t : State} (h : s.Effect t) (hs : s.plant.listsOk) {j : SlotIx}
    (hj : (t.plant.allot j).state ≠ .free) :
    (∃ c, (t.plant.allot j).owner = some c ∧ (s.plant.client c).state = .active)
      ∨ (s.plant.allot j).Onward (t.plant.allot j) := by
  cases h with
  | acts h => exact .inr (h.onward hs j)
  | claim c p i hpass h =>
    obtain ⟨-, -, hact, -, -, -, -, -, hi⟩ := hpass
    have hon := h.onward (Plant.createAllotment_listsOk hs (Plant.lowestFree_free hi) c p) j
    rw [Plant.allot_createAllotment] at hon
    by_cases hji : j = i
    · rw [if_pos hji] at hon
      exact .inl ⟨c, hon.owner, hact⟩
    · rw [if_neg hji] at hon
      exact .inr hon
  | channel n _ _ _ _ _ h => rw [h]; exact .inr (.refl _)
  | configured c x _ _ h => rw [h]; exact .inr (.refl _)
  | relimit s' _ hr h =>
    rw [h, ← hr.plant]
    exact .inr (State.recompute_onward (by rw [hr.plant]; exact hs) j)
  | rederate _ _ _ h => rw [h]; exact .inr (.refl _)
  | halt h => exact absurd (by rw [h]; exact s.plant.haltFreed_free j) hj
  | reset h => exact absurd (by rw [h, Plant.allot_reset]; rfl) hj
  | held h => rw [h]; exact .inr (.refl _)
  | supply h => rw [h]; exact .inr (.refl _)

theorem step_onward {s t : State} (h : step s = .next t) (hs : s.plant.listsOk) {j : SlotIx}
    (hj : (t.plant.allot j).state ≠ .free) :
    (∃ c, (t.plant.allot j).owner = some c ∧ (s.plant.client c).state = .active)
      ∨ (s.plant.allot j).Onward (t.plant.allot j) := by
  rcases step_effect h with rfl | ⟨rest, he⟩
  · exact .inr (.refl _)
  · exact he.onward hs hj

/-! ### SET_CLIENT (R132) -/

/-- An accepted SET_CLIENT changes an id or a quota in place, or is taken in SETUP for a client that is not ACTIVE. -/
theorem State.setClientTest_none {s : State} {c : ClientIx} {id : Byte} {quota : Nat}
    (h : s.setClientTest c id quota = none) :
    setClientForm (s.plant.client c) id = .change
      ∨ (s.ctl.part = .setup ∧ (s.plant.client c).state ≠ .active) := by
  by_cases hform : setClientForm (s.plant.client c) id = .change
  · exact .inl hform
  have hpart : s.ctl.part = .setup := by
    by_contra hpart
    simp [State.setClientTest, hform, hpart] at h
  refine .inr ⟨hpart, fun hact => ?_⟩
  cases hf : setClientForm (s.plant.client c) id with
  | change => exact hform hf
  | add => unfold setClientForm at hf; split_ifs at hf with _ hu; simp [hu] at hact
  | idChange | removal => simp [State.setClientTest, hf, hpart, hact] at h

theorem Client.configure_change {x : Client} {id : Byte} (h : setClientForm x id = .change) (quota window : Nat)
    (alert : Bool) : x.configure id quota window alert =
      { x with quota := quota, window := window, alert := alert, timer := x.changedTimer window } := by
  simp only [Client.configure, h]

end Sys2Proof.Machine

open Sys2Proof Sys2Proof.Machine in
/-- Settles O58: an allotment in use after a step is a new one of an ACTIVE client or was in use before, and by what has
become of its owner the client is ACTIVE or the allotment in FALLING/FREE. -/
theorem absentClientsOwnOnlyFallsToFree : Obligations.AbsentClientsOwnOnlyFallsToFree := by
  refine ⟨fun s t habsent hlists hordered hquiet h => ?step, fun i c hi => absurd ?reset hi⟩
  case reset =>
    change (Plant.reset.allot i).state = .free
    rw [Plant.allot_reset]
    rfl
  intro j c hj hown
  have hbefore : (s.plant.client c).state = .active ∨ ((s.plant.client c).state ≠ .unset
      ∧ (s.plant.allot j).state ≠ .free ∧ (t.plant.allot j).state = .falling .free) := by
    rcases step_onward h ⟨hlists, hordered⟩ hj with ⟨d, hd, hact⟩ | hon
    · obtain rfl : d = c := Option.some.inj (hd.symm.trans hown)
      exact .inl hact
    · have hused : (s.plant.allot j).state ≠ .free := fun hf => hj (hon.free hf)
      refine (habsent j c hused (hon.owner ▸ hown)).imp_right fun ⟨hset, hfalls⟩ => ⟨hset, hused, ?_⟩
      exact (hon.falls hfalls).resolve_right hj
  have hkept (hst : (t.plant.client c).state = (s.plant.client c).state) : (t.plant.client c).state = .active
      ∨ ((t.plant.client c).state ≠ .unset ∧ (t.plant.allot j).state = .falling .free) := by
    rw [hst]
    exact hbefore.imp_right fun ⟨hset, _, hfalls⟩ => ⟨hset, hfalls⟩
  cases step_clients h c with
  | reported hr => exact hkept (by rw [hr.1])
  | restarted _ _ hr => exact hkept (by rw [hr])
  | activated _ hr => rw [hr]; exact .inl rfl
  | departed x st _ hst _ hr hleft =>
    refine .inr ⟨?_, hleft j hj hown⟩
    rw [hr]
    rcases hst with rfl | rfl <;> simp
  | configured id quota window alert ht hr =>
    rcases State.setClientTest_none ht with hform | ⟨hpart, hne⟩
    · exact hkept (by rw [hr, Client.configure_change hform])
    · obtain ⟨-, hused, -⟩ := hbefore.resolve_left hne
      exact absurd ((hquiet.2 hpart).1.1 j) hused
  | reset hr => exact absurd (by rw [hr, Plant.allot_reset]; rfl) hj
end

section
/-! Client records (7.1): a window timer, an id and a retired count as the client's state allows (R133, R137, R140). -/

namespace Sys2Proof.Machine

theorem windowTimer_isSome (window : Nat) : (windowTimer window).isSome = true ↔ 0 < window := by
  unfold windowTimer
  split <;> simp <;> omega

theorem Client.shaped_reset : Client.reset.shaped := by simp [Client.shaped, Client.reset]

theorem Client.Reported.shaped {x y : Client} (h : x.Reported y) (hx : x.shaped) : y.shaped := by
  obtain ⟨htimer, hid, hretired⟩ := hx
  obtain ⟨heq, hbound⟩ := h
  rw [heq]
  exact ⟨htimer, hid, hbound hretired⟩

/-- The four forms of an accepted SET_CLIENT (R133). -/
theorem Client.configure_shaped {x : Client} (hx : x.shaped) (id : Byte) (quota window : Nat) (alert : Bool) :
    (x.configure id quota window alert).shaped := by
  obtain ⟨htimer, hid, hretired⟩ := hx
  unfold Client.configure
  split
  next => simp [Client.shaped]
  next hform =>
    refine ⟨?_, hid, hretired⟩
    simp only [Client.changedTimer]
    by_cases hw : x.state = .active ∧ window ≠ x.window
    · rw [if_pos hw, windowTimer_isSome]
      simp [hw.1]
    · rw [if_neg hw, htimer]
      refine and_congr_right fun hact => ?_
      rw [not_not.mp fun hne => hw ⟨hact, hne⟩]
  next => simp [Client.shaped]
  next =>
    split
    next => exact ⟨htimer, hid, hretired⟩
    next => exact Client.shaped_reset

end Sys2Proof.Machine

open Sys2Proof Sys2Proof.Machine in
/-- Settles O11: each change of a client's record keeps its timer, its id and its retired count in agreement with its
state. -/
theorem clientRecordsStayShaped : Obligations.ClientRecordsStayShaped := by
  intro s t hs h c
  have hshaped := hs c
  obtain ⟨htimer, hid, hretired⟩ := hs c
  cases step_clients h c with
  | reported hr => exact hr.shaped hshaped
  | restarted hact hw hr =>
    rw [hr]
    exact ⟨(windowTimer_isSome _).trans ⟨fun _ => ⟨hact, hw⟩, fun _ => hw⟩, hid, hretired⟩
  | activated hset hr =>
    rw [hr]
    exact ⟨(windowTimer_isSome _).trans ⟨fun hw => ⟨rfl, hw⟩, fun hw => hw.2⟩,
      hid.trans ⟨fun _ => by simp [Client.activated], fun _ => hset⟩, Nat.zero_le _⟩
  | departed x st hact hst hx hr =>
    obtain ⟨-, -, hcount⟩ := hx.shaped hshaped
    have hsome : x.id.isSome = true := by
      rw [hx.1]
      exact hid.mpr (Client.active_ne_unset hact)
    rw [hr]
    rcases hst with rfl | rfl <;> exact ⟨by simp, by simp [hsome], hcount⟩
  | configured id quota window alert _ hr => rw [hr]; exact Client.configure_shaped hshaped id quota window alert
  | reset hr => rw [hr, Plant.client_reset]; exact Client.shaped_reset
end

section
/-! PING and SCAN (R141 to R144, R180): the tests they share, a client's attention, and the entries of a SCAN. -/

namespace Sys2Proof.Machine

/-! ### The tests (R142, R143) -/

/-- Requests whose first test is that of the client's state, and whose second is an empty payload (R142, R143). -/
structure TestedAsScan (f : BlockStep) : Prop where
  inactive : ∀ snd p s st, s.notActive snd = some st → f snd p s = s.refuse st
  payload : ∀ snd p s, s.notActive snd = none → p ≠ [] → f snd p s = s.refuse .badLength

theorem scan_tested : TestedAsScan scan :=
  ⟨fun snd p s st h => by simp [scan, h], fun snd p s h hp => by simp [scan, h, hp]⟩

theorem ping_tested : TestedAsScan ping :=
  ⟨fun snd p s st h => by simp [ping, h], fun snd p s h hp => by simp [ping, h, hp]⟩

section Tested
variable {f : BlockStep} (hf : TestedAsScan f) {s : State} (h : s.inReset = false) (r : Request)
include hf h

theorem TestedAsScan.idle {c : ClientIx} (hc : (s.plant.client c).state = .idle) (p : List Byte) :
    s.request r (.client c) p f = .next (s.answered r (.client c) p (.bare .notJoined)) :=
  State.request_refused h (fun d hd => by cases hd; simp [hc]) (hf.inactive _ _ _ _ (State.notActive_idle hc))

theorem TestedAsScan.lapsed {c : ClientIx} (hc : (s.plant.client c).state = .lapsed) (p : List Byte) :
    s.request r (.client c) p f = .next (s.answered r (.client c) p (.bare .lapsed)) :=
  State.request_refused h (fun d hd => by cases hd; simp [hc]) (hf.inactive _ _ _ _ (State.notActive_lapsed hc))

theorem TestedAsScan.badLength {snd : Sender} (hp : s.present snd) {p : List Byte} (hne : p ≠ []) :
    s.request r snd p f = .next (s.answered r snd p (.bare .badLength)) :=
  State.request_refused h (fun c hc => Client.active_ne_unset (hp c hc))
    (hf.payload _ _ _ (State.notActive_present hp) hne)

end Tested

/-! ### Attention (R141) -/

/-- A client has attention while it has an allotment that is changed, or a retired count above 0. -/
theorem Plant.attention_iff {p : Plant} {c : ClientIx} : p.attention c = true ↔
    (∃ i, (p.allot i).state ≠ .free ∧ (p.allot i).owner = some c ∧ (p.allot i).changed = true)
      ∨ 0 < (p.client c).retired := by
  simp only [Plant.attention, Bool.or_eq_true, List.any_eq_true, Plant.mem_ownedBy, decide_eq_true_eq, and_assoc]

/-- The changed allotments of a client, in ascending slot order. -/
theorem Plant.ownedBy_changed (p : Plant) (c : ClientIx) : (p.ownedBy c).filter (fun i => (p.allot i).changed)
    = (List.finRange 32).filter fun i =>
        (p.allot i).state ≠ .free ∧ (p.allot i).owner = some c ∧ (p.allot i).changed = true := by
  rw [Plant.ownedBy, List.filter_filter]
  refine List.filter_congr fun i _ => ?_
  rw [Bool.eq_iff_iff]
  simp only [Bool.and_eq_true, decide_eq_true_eq]
  tauto

theorem Plant.attention_eq (p : Plant) (c : ClientIx) : p.attention c = decide
    ((p.ownedBy c).filter (fun i => (p.allot i).changed) ≠ [] ∨ 0 < (p.client c).retired) := by
  rw [Bool.eq_iff_iff, decide_eq_true_eq, Plant.attention_iff, Plant.ownedBy_changed]
  simp [List.filter_eq_nil_iff]

/-! ### The flags that a SCAN clears (R144) -/

theorem Plant.allot_foldl_clearChanged (l : List SlotIx) (p : Plant) (j : SlotIx) :
    (l.foldl Plant.clearChanged p).allot j =
      if j ∈ l then { p.allot j with changed := false } else p.allot j := by
  induction l generalizing p with
  | nil => simp
  | cons i l ih =>
    rw [List.foldl_cons, ih, Plant.clearChanged, Plant.allot_setAllot]
    by_cases hj : j = i
    · subst hj; simp
    · simp [hj]

theorem Plant.foldl_clearChanged_frame (l : List SlotIx) (p : Plant) : l.foldl Plant.clearChanged p =
    { p with eng := { p.eng with allots := (l.foldl Plant.clearChanged p).eng.allots } } := by
  induction l generalizing p with
  | nil => rfl
  | cons i l ih => rw [List.foldl_cons, ih]; rfl

/-! ### The accepted requests -/

theorem scan_ok {s : State} {snd : Sender} (hp : s.present snd) : scan snd [] s =
    (s.setPlant (if (clientOf snd).isSome then (s.plant.scanned snd).foldl Plant.clearChanged s.plant else s.plant),
      .okWith (s.plant.scanReply snd)) := by
  simp [scan, State.notActive_present hp]

theorem ping_client {s : State} {c : ClientIx} (hc : (s.plant.client c).state = .active) : ping (.client c) [] s =
    (s.setPlant (s.plant.setClient c { s.plant.client c with retired := 0 }), .okWith (pingClientReply s c)) := by
  simp [ping, State.notActive_present (State.present_client hc)]

/-- The owner's nibble is its slot number, 0 for none. -/
theorem ownerByte_toNat (o : Option ClientIx) :
    (ownerByte o).toNat = (match o with | some c => c.val + 1 | none => 0) := by
  cases o with
  | none => rfl
  | some c => simp only [ownerByte, byte, BitVec.toNat_ofNat]; omega

theorem flagBit_toNat (b : Bool) : 32768 * b.toNat = if b then 32768 else 0 := by cases b <;> rfl

end Sys2Proof.Machine

open Sys2Proof Sys2Proof.Machine in
/-- Settles O36: the shared tests, and the replies of the accepted requests with their attention as R141 says. -/
theorem pingReportsAndClearsOnlyTheRetiredCount : Obligations.PingReportsAndClearsOnlyTheRetiredCount := by
  intro s h refused part changed attention
  have hattention (c : ClientIx) : flag (s.plant.attention c) = attention c := by
    rw [Plant.attention_eq, Plant.ownedBy_changed]
  refine ⟨fun c q hc => ping_tested.idle h .ping hc q, fun c q hc => ping_tested.lapsed h .ping hc q,
    fun snd q hp hq => ping_tested.badLength h .ping hp hq, fun c hc => ?client, ?supervisor⟩
  case client =>
    intro x
    have hreply : pingClientReply s c = [byte (c.val + 1), x.id.getD 0, part] ++ word x.quota ++ [byte x.window]
        ++ word x.claimed
        ++ [byte (s.plant.ownedBy c).length, byte (changed c).length, byte x.retired, attention c] := by
      rw [← hattention, ← show _ = changed c from s.plant.ownedBy_changed c]
      rfl
    refine (State.request_present h (State.present_client hc) .ping [] ping).trans ?_
    rw [ping_client hc, hreply]
    rfl
  case supervisor =>
    refine (State.request_supervisor h .ping [] ping).trans ?_
    simp only [← hattention]
    rfl

open Sys2Proof Sys2Proof.Machine in
/-- Settles O31: the shared tests, the entries byte by byte, and the flags of a client's own allotments. -/
theorem scanListsAndOnlyTheClientClearsFlags : Obligations.ScanListsAndOnlyTheClientClearsFlags := by
  intro s h entry refused
  have hentry : s.plant.scanEntry = entry := by
    funext i
    have hstate : 16 * (s.plant.allot i).state.code + (s.plant.allot i).state.outcomeNibble =
        (match (s.plant.allot i).state with
          | .free => 0x0F | .waiting => 0x1F | .staged => 0x2F | .rising => 0x3F | .running => 0x4F | .reduced => 0x5F
          | .falling .free => 0x60 | .falling .waiting => 0x61 | .falling .running => 0x64 | .falling .reduced => 0x65
          | .tripped => 0x7F) := by
      cases (s.plant.allot i).state with
      | falling o => cases o <;> rfl
      | free | waiting | staged | rising | running | reduced | tripped => rfl
    simp only [Plant.scanEntry, ownerByte_toNat, hstate, flagBit_toNat]
    rfl
  refine ⟨fun c q hc => scan_tested.idle h .scan hc q, fun c q hc => scan_tested.lapsed h .scan hc q,
    fun snd q hp hq => scan_tested.badLength h .scan hp hq, fun c hc => ?client, ?supervisor⟩
  case client =>
    refine ⟨_, State.request_present h (State.present_client hc) .scan [] scan, ?answer, fun i => ?flags, ?frame⟩
    all_goals rw [scan_ok (State.present_client hc)]
    case answer => rw [← hentry]; rfl
    case flags =>
      refine (Plant.allot_foldl_clearChanged _ s.plant i).trans ?_
      simp only [Plant.scanned, Plant.mem_ownedBy]
    case frame => exact Plant.foldl_clearChanged_frame _ s.plant
  case supervisor =>
    refine (State.request_supervisor h .scan [] scan).trans ?_
    rw [scan_ok s.present_supervisor, ← hentry]
    rfl
end

section
/-! SET_CLIENT (R132, R133): its tests in their order, and the record and the reply slot that each form leaves. -/

namespace Sys2Proof.Machine

/-! ### The fields (10.2) -/

theorem setClientFieldsOk_iff (b id qh ql w al : Byte) : setClientFieldsOk [b, id, qh, ql, w, al] = true ↔
    (1 ≤ b.toNat ∧ b.toNat ≤ 8) ∧ id.toNat ≤ 0x7F ∧ 256 * qh.toNat + ql.toNat ≤ 4095 ∧ al.toNat ≤ 1 := by
  simp only [setClientFieldsOk, Bool.and_eq_true, decide_eq_true_eq, and_assoc]
  rfl

theorem clientByte_toNat (c : ClientIx) : (byte (c.val + 1)).toNat = c.val + 1 := by
  simp only [byte, BitVec.toNat_ofNat]
  omega

/-- The alert enable byte is read as a number. -/
theorem alertByte_eq (b : Byte) : (b.toNat == 1) = (b == 1) := by
  rw [Bool.eq_iff_iff, beq_iff_eq, beq_iff_eq]
  exact ⟨fun h => BitVec.eq_of_toNat_eq h, fun h => by rw [h]; rfl⟩

/-! ### The forms (07 section 7.3) -/

section Forms
variable {x : Client} {id : Byte}

theorem setClientForm_change_iff : setClientForm x id = .change ↔ x.state ≠ .unset ∧ x.id = some id ∧ id ≠ 0 := by
  unfold setClientForm
  split_ifs with h0 hu hi <;> simp_all

theorem setClientForm_removal (h : id = 0) : setClientForm x id = .removal := if_pos h

theorem setClientForm_add (h0 : id ≠ 0) (hu : x.state = .unset) : setClientForm x id = .add := by
  rw [setClientForm, if_neg h0, if_pos hu]

theorem setClientForm_idChange (h0 : id ≠ 0) (hu : x.state ≠ .unset) (hi : x.id ≠ some id) :
    setClientForm x id = .idChange := by
  rw [setClientForm, if_neg h0, if_neg hu, if_neg hi]

/-- A form with a new id: an add or an id change. -/
theorem setClientForm_newId (h0 : id ≠ 0) (hc : setClientForm x id ≠ .change) :
    setClientForm x id = .add ∨ setClientForm x id = .idChange := by
  unfold setClientForm at hc ⊢
  split_ifs with hu hi <;> simp_all

/-- A form that takes an id from a configured slot: an id change or a removal. -/
theorem setClientForm_oldId (hu : x.state ≠ .unset) (hc : setClientForm x id ≠ .change) :
    setClientForm x id = .idChange ∨ setClientForm x id = .removal := by
  unfold setClientForm at hc ⊢
  split_ifs with h0 hi <;> simp_all

theorem Client.configure_add (h : setClientForm x id = .add) (quota window : Nat) (alert : Bool) :
    x.configure id quota window alert =
      { x with id := some id, quota := quota, window := window, alert := alert, state := .idle, claimed := 0,
               retired := 0, timer := none } := by
  simp only [Client.configure, h]

theorem Client.configure_idChange (h : setClientForm x id = .idChange) (quota window : Nat) (alert : Bool) :
    x.configure id quota window alert =
      { x with id := some id, quota := quota, window := window, alert := alert, state := .idle, retired := 0,
               timer := none } := by
  simp only [Client.configure, h]

theorem Client.configure_removal (quota window : Nat) (alert : Bool) :
    x.configure 0 quota window alert = if x.state = .unset then x else Client.reset := rfl

end Forms

/-! ### The tests (R132) -/

theorem Plant.idTaken_iff {p : Plant} {c : ClientIx} {id : Byte} : p.idTaken c id = true ↔
    ¬∀ d, d ≠ c → (p.client d).state ≠ .unset → (p.client d).id ≠ some id := by
  simp [Plant.idTaken, allClients, and_assoc]

section Tests
variable {s : State} {c : ClientIx} {id : Byte} {quota : Nat}

theorem State.setClientTest_run (hrun : s.ctl.part = .run) (hc : setClientForm (s.plant.client c) id ≠ .change) :
    s.setClientTest c id quota = some .notSetup := if_pos ⟨hc, by simp [hrun]⟩

theorem State.setClientTest_active (hsetup : s.ctl.part = .setup)
    (hc : setClientForm (s.plant.client c) id ≠ .change) (hact : (s.plant.client c).state = .active) :
    s.setClientTest c id quota = some .wrongState := by
  have hform := setClientForm_oldId (Client.active_ne_unset hact) hc
  simp only [State.setClientTest]
  rw [if_neg (by simp [hsetup]), if_pos ⟨hform, hact⟩]

/-- Orders 6 and 7 of R132 are what is left for an add or an id change of a client that is not ACTIVE. -/
theorem State.setClientTest_newId (hsetup : s.ctl.part = .setup)
    (hform : setClientForm (s.plant.client c) id = .add ∨ setClientForm (s.plant.client c) id = .idChange)
    (hne : (s.plant.client c).state ≠ .active) :
    s.setClientTest c id quota = if s.plant.idTaken c id = true then some .badField
      else if quota < (s.plant.client c).claimed then some .quotaInUse else none := by
  rcases hform with hform | hform <;> simp [State.setClientTest, hsetup, hform, hne]

theorem State.setClientTest_change (hform : setClientForm (s.plant.client c) id = .change) :
    s.setClientTest c id quota = if quota < (s.plant.client c).claimed then some .quotaInUse else none := by
  simp [State.setClientTest, hform]

theorem State.setClientTest_removal (hsetup : s.ctl.part = .setup)
    (hform : setClientForm (s.plant.client c) id = .removal) (hne : (s.plant.client c).state ≠ .active) :
    s.setClientTest c id quota = none := by
  simp [State.setClientTest, hsetup, hform, hne]

end Tests

/-! ### The request -/

/-- The slot number of the payload names the client slot. -/
theorem setClient_slot (c : ClientIx) (id qh ql w al : Byte) :
    (Fin.ofNat 8 (byteAt [byte (c.val + 1), id, qh, ql, w, al] 0 - 1) : ClientIx) = c := by
  have hb : byteAt [byte (c.val + 1), id, qh, ql, w, al] 0 = c.val + 1 := clientByte_toNat c
  rw [hb]
  exact Fin.ext (Nat.mod_eq_of_lt c.isLt)

section Request
variable {s : State} {c : ClientIx} {id w al qh ql : Byte} (hid : id.toNat ≤ 0x7F) (hal : al.toNat ≤ 1)
  (hquota : 256 * qh.toNat + ql.toNat ≤ 4095)
include hid hal hquota

theorem setClient_fields : setClientFieldsOk [byte (c.val + 1), id, qh, ql, w, al] = true := by
  rw [setClientFieldsOk_iff, clientByte_toNat]
  exact ⟨by omega, hid, hquota, hal⟩

/-- With its fields in range a SET_CLIENT comes to orders 4 to 7 of R132. -/
theorem setClient_refuses {st : Status} (ht : s.setClientTest c id (256 * qh.toNat + ql.toNat) = some st) :
    setClient .supervisor [byte (c.val + 1), id, qh, ql, w, al] s = s.refuse st := by
  have hfields := setClient_fields (c := c) (w := w) hid hal hquota
  have htest : s.setClientTest c ([byte (c.val + 1), id, qh, ql, w, al].getD 1 0)
      (wordAt [byte (c.val + 1), id, qh, ql, w, al] 2) = some st := ht
  simp only [setClient, hfields, setClient_slot, htest]
  rfl

theorem setClient_takes {y : Client} {t : Port} (ht : s.setClientTest c id (256 * qh.toNat + ql.toNat) = none)
    (hy : (s.plant.client c).configure id (256 * qh.toNat + ql.toNat) w.toNat (al == 1) = y)
    (hport : s.port.emptySlotFor c (s.plant.client c) (setClientForm (s.plant.client c) id) = t) :
    setClient .supervisor [byte (c.val + 1), id, qh, ql, w, al] s =
      ({ s.setPlant (s.plant.setClient c y) with port := t }, .okWith (clientReply c y)) := by
  have hfields := setClient_fields (c := c) (w := w) hid hal hquota
  have htest : s.setClientTest c ([byte (c.val + 1), id, qh, ql, w, al].getD 1 0)
      (wordAt [byte (c.val + 1), id, qh, ql, w, al] 2) = none := ht
  rw [← alertByte_eq] at hy
  simp only [setClient, hfields, setClient_slot, htest, ← hy, ← hport]
  rfl

end Request

end Sys2Proof.Machine

open Sys2Proof Sys2Proof.Machine in
/-- Settles O37: the refusals in the order of R132, and the record and the reply slot by the form. -/
theorem setClientActsByItsForm : Obligations.SetClientActsByItsForm := by
  intro s h
  have hrefused {q : List Byte} {st : Status} (hr : setClient .supervisor q s = s.refuse st) :
      exec (.setClient .supervisor q) s = .next (s.answered .setClient .supervisor q (.bare st)) :=
    State.request_refused h (fun _ hc => by cases hc) hr
  refine ⟨⟨fun c q hset => ?sender, fun q hl => hrefused (by simp [setClient, hl]), fun b id w al qh ql hb =>
    hrefused ?fields⟩, ?accepted⟩
  case sender => exact State.request_refused h (fun d hd => by cases hd; exact hset) (by simp [setClient])
  case fields =>
    have hfields : setClientFieldsOk [b, id, qh, ql, w, al] = false := by
      rw [← Bool.not_eq_true, setClientFieldsOk_iff]
      omega
    simp only [setClient, hfields]
    rfl
  case accepted =>
    intro c id w al qh ql hid hal p quota x refused takes freeId isChange hquota
    have hchange : isChange ↔ setClientForm x id = .change := setClientForm_change_iff.symm
    have hrefuses {st : Status} (ht : s.setClientTest c id quota = some st) : refused st :=
      hrefused (setClient_refuses hid hal hquota ht)
    have htakes {y : Client} {t : Port} (ht : s.setClientTest c id quota = none)
        (hy : x.configure id quota w.toNat (al == 1) = y)
        (hport : s.port.emptySlotFor c x (setClientForm x id) = t) : takes y t := by
      refine (State.request_supervisor h .setClient p setClient).trans ?_
      rw [setClient_takes hid hal hquota ht hy hport]
      rfl
    have hnewId (hsetup : s.ctl.part = .setup) (hform : setClientForm x id = .add ∨ setClientForm x id = .idChange)
        (hne : x.state ≠ .active) (hfree : freeId) (hclaimed : x.claimed ≤ quota) :
        s.setClientTest c id quota = none := by
      rw [State.setClientTest_newId hsetup hform hne, if_neg fun ht => Plant.idTaken_iff.mp ht hfree,
        if_neg (Nat.not_lt.mpr hclaimed)]
    have habsent (hst : x.state = .idle ∨ x.state = .lapsed) : x.state ≠ .unset ∧ x.state ≠ .active := by
      rcases hst with hst | hst <;> simp [hst]
    refine ⟨fun hrun hc => ?run, fun hsetup hc hact => ?active, fun hsetup hc hne h0 hfree => ?taken,
      fun hsetup hc hne h0 hfree hlt => ?quota, fun hc hlt => ?changeQuota, fun hu h0 hsetup hfree hcl => ?add,
      fun hc hcl => ?change, fun hst hi h0 hsetup hfree hcl => ?idChange, fun hst h0 hsetup => ?removal,
      fun hu h0 hsetup => ?unset⟩
    case run => exact hrefuses (State.setClientTest_run hrun (hchange.not.mp hc))
    case active => exact hrefuses (State.setClientTest_active hsetup (hchange.not.mp hc) hact)
    case taken =>
      have hform := setClientForm_newId h0 (hchange.not.mp hc)
      exact hrefuses (by rw [State.setClientTest_newId hsetup hform hne, if_pos (Plant.idTaken_iff.mpr hfree)])
    case quota =>
      have hform := setClientForm_newId h0 (hchange.not.mp hc)
      refine hrefuses ?_
      rw [State.setClientTest_newId hsetup hform hne, if_neg fun ht => Plant.idTaken_iff.mp ht hfree, if_pos hlt]
    case changeQuota => exact hrefuses (by rw [State.setClientTest_change (hchange.mp hc), if_pos hlt])
    case add =>
      have hform := setClientForm_add h0 hu
      exact htakes (hnewId hsetup (.inl hform) (by simp [hu]) hfree hcl) (Client.configure_add hform _ _ _)
        (by rw [hform]; rfl)
    case change =>
      have hform := hchange.mp hc
      exact htakes (by rw [State.setClientTest_change hform, if_neg (Nat.not_lt.mpr hcl)])
        (Client.configure_change hform _ _ _) (by rw [hform]; rfl)
    case idChange =>
      obtain ⟨hset, hne⟩ := habsent hst
      have hform := setClientForm_idChange h0 hset hi
      exact htakes (hnewId hsetup (.inr hform) hne hfree hcl) (Client.configure_idChange hform _ _ _)
        (by rw [hform]; rfl)
    case removal =>
      obtain ⟨hset, hne⟩ := habsent hst
      have hform : setClientForm x id = .removal := setClientForm_removal h0
      exact htakes (State.setClientTest_removal hsetup hform hne)
        (by rw [h0, Client.configure_removal, if_neg hset]) (by rw [hform]; exact if_neg hset)
    case unset =>
      have hform : setClientForm x id = .removal := setClientForm_removal h0
      have hne : x.state ≠ .active := by simp [hu]
      exact htakes (State.setClientTest_removal hsetup hform hne)
        (by rw [h0, Client.configure_removal, if_pos hu]) (by rw [hform]; exact if_pos hu)
end

section
/-! Read phases (R148, R151 to R153): the bytes that are sent, the end of the phase, bare reads, and the summary
frame of 10.6 with ALERTn in it (R141). -/

namespace Sys2Proof.Machine

/-! ### ALERTn and the attention byte (R141, 10.6) -/

theorem Plant.alertLow_iff {p : Plant} : p.alertLow = true ↔
    ∃ c, (p.client c).state = .active ∧ (p.client c).alert = true ∧ p.attention c = true := by
  simp [Plant.alertLow, allClients, and_assoc]

/-! ### Sending (R151) -/

section Reading
variable {t : Port}

theorem Port.reading_iff : t.reading = true ↔ (t.state = .tx ∨ t.state = .summary) ∧ t.held = none := by
  simp [Port.reading]

theorem Port.sendingByte_stopped (h : t.stopped = true) : t.sendingByte = none := by simp [Port.sendingByte, h]

/-- The byte of the frame in hand at the position, and the filler past its end. -/
theorem Port.sendingByte_frame {f : List Byte} (hst : t.state = .tx ∨ t.state = .summary) (hf : t.inHand = some f)
    (hs : t.stopped = false) :
    t.sendingByte = some (if h : t.position < f.length then f[t.position] else Config.filler) := by
  have hsends : (t.state == .tx || t.state == .summary) = true := by simpa using hst
  have hbyte : f.getD t.position Config.filler =
      if h : t.position < f.length then f[t.position] else Config.filler := by
    split
    next h => exact List.getD_eq_getElem _ _ h
    next h => exact List.getD_eq_default _ _ (Nat.not_lt.mp h)
  simp only [Port.sendingByte, hs, hsends, hf, Bool.not_true, Bool.or_self, Option.map_some, hbyte]
  rfl

theorem Port.takeAck_stopped (h : t.stopped = true) (a : Bool) : t.takeAck a = t := if_pos h

theorem Port.takeAck_ack {f : List Byte} (hf : t.inHand = some f) (hs : t.stopped = false) :
    t.takeAck true = { t with position := min (t.position + 1) f.length } := by simp [Port.takeAck, hs, hf]

theorem Port.takeAck_nack (hs : t.stopped = false) : t.takeAck false = { t with stopped := true } := by
  simp [Port.takeAck, hs]

/-- The port leaves a read phase that answers no accepted RESTART. -/
theorem Port.toIdle_reading (hheld : t.held = none) (hr : t.state = .tx → t.restartReply = false) :
    t.toIdle = { t with state := .idle, timer := none, inHand := none, position := 0, stopped := false } := by
  have hreply : (if t.state = .tx then false else t.restartReply) = t.restartReply := by
    split
    next htx => exact (hr htx).symm
    next => rfl
  rw [Port.toIdle, hreply, ← hheld]

end Reading

/-! ### The rows of a read phase -/

section Rows
variable {s : State}

theorem State.readByteAck_taken (h : s.inReset = false) (hr : s.port.reading = true) (a : Bool) :
    exec (.readByteAck a) s = .next (s.setPort (s.port.takeAck a)) :=
  (State.taking_run h _).trans (by rw [if_pos hr])

theorem State.readPhaseEnd_taken (h : s.inReset = false) (hr : s.port.reading = true) (e : PhaseEnd) :
    exec (.readPhaseEnd e) s = .next (s.endReadPhase e) :=
  (State.taking_run h _).trans (by rw [if_pos hr])

/-- In a read phase a bare read is the repeated START that ends it (R152). -/
theorem State.bareRead_reading (h : s.inReset = false) (hr : s.port.reading = true) :
    exec .bareRead s = .next (s.endReadPhase .restartRead) := by
  have hidle : s.port.state ≠ .idle := by
    rcases (Port.reading_iff.mp hr).1 with hst | hst <;> simp [hst]
  change execBareRead s = _
  rw [execBareRead, State.taking_run h, if_neg hidle, if_pos hr]

theorem State.bareRead_idle (h : s.inReset = false) (hst : s.port.state = .idle) :
    exec .bareRead s = .next s.beginBareRead := by
  change execBareRead s = _
  rw [execBareRead, State.taking_run h, if_pos hst]

/-- A bare read while no frame is handled sends the summary of the moment (R152, R153). -/
theorem State.beginBareRead_sends (hh : s.port.handling = false) :
    s.beginBareRead = { s with port := { s.port with
      state := .summary, timer := some 50, inHand := some s.summaryFrame, position := 0, stopped := false
      acked := true } } := by
  simp only [State.beginBareRead, hh]
  rfl

/-- While a frame is handled its address byte is held (R152). -/
theorem State.beginBareRead_holds (hh : s.port.handling = true) :
    s.beginBareRead = { s with port := { s.port with
      state := .summary, timer := some 50, inHand := none, position := 0, stopped := false, held := some .read
      acked := false } } := by
  simp only [State.beginBareRead, hh]
  rfl

theorem State.orRestart_none (hr : s.port.state = .tx → s.port.restartReply = false) (t : State) : s.orRestart t = t :=
  if_neg fun ⟨htx, hx⟩ => by simp [State.restartExchange, hr htx] at hx

/-- A reply comes into hand while a bare read waits for it: the summary is built then (R152). -/
theorem State.takeReplyInHand_summary (hst : s.port.state = .summary) (hheld : s.port.held = some .read)
    (hx : s.restartExchange = false) (reply : List Byte) : s.takeReplyInHand reply =
      { s with port := { s.port with
        inHand := some s.summaryFrame, position := 0, stopped := false, held := none, acked := true
        handling := false, built := none } } := by
  have hexec : s.port.state ≠ .exec := by simp [hst]
  rw [State.takeReplyInHand, if_neg hexec, hx, hheld]
  simp only [Bool.false_eq_true, if_false, Port.send, State.setPort, ← hst]

theorem State.replyInHand_taken (h : s.inReset = false) {reply : List Byte} (hb : s.port.built = some reply) :
    exec .replyInHand s = .next (s.takeReplyInHand reply) := by
  change execReplyInHand s = _
  rw [execReplyInHand, State.taking_run h, hb]

end Rows

end Sys2Proof.Machine

open Sys2Proof Sys2Proof.Machine in
/-- Settles O57: ALERTn by the attention of the clients, the summary frame by its fields, and each row of a read phase
by its equation. -/
theorem readPhasesSendTheirFrameThenFiller : Obligations.ReadPhasesSendTheirFrameThenFiller := by
  intro s h attention alert part cause derate summary sends
  have hattention (c : ClientIx) : s.plant.attention c = true ↔ attention c := Plant.attention_iff.trans or_comm
  have halert : s.alertLow = true ↔ alert := Plant.alertLow_iff.trans (by simp only [hattention]; rfl)
  have hsummary : s.summaryFrame = summary := by
    have hflag : flag s.alertLow = if alert then 1 else 0 := if_congr halert rfl rfl
    have hbyte : s.plant.attentionByte
        = byte (((List.finRange 8).map fun c => if attention c then 2 ^ c.val else 0).sum) := by
      refine congrArg (fun l => byte (List.sum l)) (List.map_congr_left fun c _ => if_congr (hattention c) rfl rfl)
    unfold State.summaryFrame
    rw [hflag, hbyte]
    rfl
  have hsends {cmd : Instr} (hh : s.port.handling = false) (hx : exec cmd s = .next s.beginBareRead) : sends cmd := by
    rw [State.beginBareRead_sends hh, hsummary] at hx
    exact hx
  refine ⟨halert, fun hst hheld =>
      ⟨fun f hf hs => ⟨?byte, ?ack, ?nack⟩, fun hs => ⟨Port.sendingByte_stopped hs, ?stopped⟩, fun hr => ?ends⟩,
    fun hst => ⟨fun hh => hsends hh (State.bareRead_idle h hst), fun hh => ?holds⟩, fun hst hheld hb hx => ?waits⟩
  case byte => exact Port.sendingByte_frame hst hf hs
  case ack =>
    rw [State.readByteAck_taken h (Port.reading_iff.mpr ⟨hst, hheld⟩), Port.takeAck_ack hf hs]
    rfl
  case nack =>
    rw [State.readByteAck_taken h (Port.reading_iff.mpr ⟨hst, hheld⟩), Port.takeAck_nack hs]
    rfl
  case stopped =>
    intro a
    rw [State.readByteAck_taken h (Port.reading_iff.mpr ⟨hst, hheld⟩), Port.takeAck_stopped hs]
    rfl
  case holds => rw [State.bareRead_idle h hst, State.beginBareRead_holds hh]
  case waits =>
    obtain ⟨reply, hb⟩ := Option.isSome_iff_exists.mp hb
    have hx : s.restartExchange = false := by
      rw [← Bool.not_eq_true, State.restartExchange, Bool.and_eq_true]
      exact hx
    rw [State.replyInHand_taken h hb, State.takeReplyInHand_summary hst hheld hx, hsummary]
  case ends =>
    have hread : s.port.reading = true := Port.reading_iff.mpr ⟨hst, hheld⟩
    have hends (e : PhaseEnd) {t : State} (ht : s.endReadPhase e = s.orRestart t) :
        exec (.readPhaseEnd e) s = .next t := by
      rw [State.readPhaseEnd_taken h hread, ht, State.orRestart_none hr]
    have hidle := Port.toIdle_reading hheld hr
    refine ⟨⟨hends .stop ?stop, hends .restartOther ?other⟩, hends .restartWrite ?write, fun hh => ?bareRead⟩
    case stop => rw [← hidle]; rfl
    case other => rw [← hidle]; rfl
    case write =>
      have hwrite : s.port.toIdle.beginWrite = s.port.beginWrite := by rw [hidle]; rfl
      change s.orRestart (s.setPort s.port.toIdle.beginWrite) = _
      rw [hwrite]
      rfl
    case bareRead =>
      have hframe : (s.setPort s.port.toIdle).summaryFrame = summary := hsummary
      have hsent : s.endReadPhase .restartRead = _ := congrArg s.orRestart
        (State.beginBareRead_sends (s := s.setPort s.port.toIdle) hh)
      rw [hframe, State.setPort_port, hidle, State.orRestart_none hr] at hsent
      refine ⟨?_, ?_⟩
      · exact (State.readPhaseEnd_taken h hread _).trans (by rw [hsent]; rfl)
      · exact (State.bareRead_reading h hread).trans (by rw [hsent]; rfl)
end

section
/-! The handling of a received frame (R131, R149, R150, R154 to R160): its checks, its sender, the replay check and the
dispatch; then the return of the owning block, which becomes the reply. -/

namespace Sys2Proof.Machine

/-! ### The frame (R154, 10.1) -/

/-- The frame check by positions: the last byte is the check byte over those before it. -/
theorem frameCheckOk_iff (f : List Byte) (overLength : Bool) : frameCheckOk f overLength = true ↔
    5 ≤ f.length ∧ f.length = 5 + (f.getD 3 0).toNat ∧ overLength = false
      ∧ f.getD (f.length - 1) 0 = crc8 (f.take (f.length - 1)) := by
  have hlast : f.getLastD 0 = f.getD (f.length - 1) 0 := by
    cases f with
    | nil => rfl
    | cons a l => simp [List.getLastD_eq_getLast?, List.getLast?_eq_getElem?]
  simp only [frameCheckOk, Bool.and_eq_true, decide_eq_true_eq, beq_iff_eq, Bool.not_eq_true', and_assoc, hlast,
    List.dropLast_eq_take]
  rfl

/-- The payload of a frame of the length its length byte gives. -/
theorem framePayload_eq {f : List Byte} (h : f.length = 5 + (f.getD 3 0).toNat) :
    framePayload f = (f.drop 4).take (f.getD 3 0).toNat := by
  rw [framePayload, List.dropLast_eq_take, List.length_drop]
  congr 1
  omega

/-! ### The sender (R131) -/

theorem Plant.senderOf_supervisor (p : Plant) : p.senderOf 0 = some .supervisor := rfl

section Sender
variable {p : Plant} {id : Byte}

theorem Plant.senderOf_client (h0 : id ≠ 0) {c : ClientIx}
    (hc : (p.client c).state ≠ .unset ∧ (p.client c).id = some id)
    (hfirst : ∀ d < c, ¬((p.client d).state ≠ .unset ∧ (p.client d).id = some id)) :
    p.senderOf id = some (.client c) := by
  have hfind : allClients.find? (fun c => (p.client c).state ≠ .unset && (p.client c).id = some id) = some c := by
    refine List.find?_eq_some_iff_getElem.mpr ⟨by simpa using hc, c.val, by simp [allClients], by simp [allClients], ?_⟩
    intro j hj
    have hd := hfirst ⟨j, by omega⟩ hj
    simpa [allClients, or_iff_not_imp_left] using hd
  rw [Plant.senderOf, if_neg h0, hfind]
  rfl

theorem Plant.senderOf_none (h0 : id ≠ 0) (h : ∀ c, ¬((p.client c).state ≠ .unset ∧ (p.client c).id = some id)) :
    p.senderOf id = none := by
  have hfind : allClients.find? (fun c => (p.client c).state ≠ .unset && (p.client c).id = some id) = none :=
    List.find?_eq_none.mpr fun c _ => by simpa using h c
  rw [Plant.senderOf, if_neg h0, hfind]
  rfl

end Sender

/-- The window of an ACTIVE client restarts at its full length (R131, R137). -/
theorem Plant.restartWindow_client (p : Plant) (c : ClientIx) : p.restartWindow (.client c) =
    if (p.client c).state = .active ∧ 0 < (p.client c).window then
      { p with clients := p.clients.set c { p.client c with timer := some (100 * (p.client c).window) } }
    else p := by
  unfold Plant.restartWindow
  simp only
  split
  next hc =>
    rw [windowTimer, if_neg (Nat.ne_of_gt hc.2)]
    rfl
  next => rfl

/-! ### Codes (10.2) -/

theorem Request.ofCode_code (r : Request) : Request.ofCode r.code = some r := by cases r <;> rfl

theorem Request.ofCode_none {b : Byte} (h : b ∉ allRequests.map Request.code) : Request.ofCode b = none :=
  List.find?_eq_none.mpr fun r hr hb => h (List.mem_map.mpr ⟨r, hr, beq_iff_eq.mp hb⟩)

/-! ### The replay check and the dispatch (R157, R158) -/

section Replay
variable {t : Port} {snd : Sender} {f : List Byte}

theorem Port.replay_repeat {x : ReplySlot} (hx : t.slotOf snd = some x) (hs : x.sequence = f.getD 1 0)
    (hr : x.request = f) : t.replayAndDispatch snd f = .answered x.reply := by
  simp only [Port.replayAndDispatch, hx, if_pos hs, if_pos hr]

theorem Port.replay_seqReuse {x : ReplySlot} (hx : t.slotOf snd = some x) (hs : x.sequence = f.getD 1 0)
    (hr : x.request ≠ f) : t.replayAndDispatch snd f = .answered (replyFrame (f.getD 1 0) .seqReuse []) := by
  simp only [Port.replayAndDispatch, hx, if_pos hs, if_neg hr]

theorem Port.dispatch_unknown (hx : ∀ x ∈ t.slotOf snd, x.sequence ≠ f.getD 1 0)
    (hc : Request.ofCode (f.getD 2 0) = none) :
    t.replayAndDispatch snd f = .unknown snd (replyFrame (f.getD 1 0) .unknownRequest []) := by
  cases hslot : t.slotOf snd with
  | none => simp only [Port.replayAndDispatch, hslot, hc]
  | some x => simp only [Port.replayAndDispatch, hslot, hc, if_neg (hx x hslot)]

theorem Port.dispatch_known (hx : ∀ x ∈ t.slotOf snd, x.sequence ≠ f.getD 1 0) {r : Request}
    (hc : Request.ofCode (f.getD 2 0) = some r) : t.replayAndDispatch snd f = .handedOver
      { sender := snd, request := r, payload := framePayload f, sequence := f.getD 1 0, frame := f } := by
  cases hslot : t.slotOf snd with
  | none => simp only [Port.replayAndDispatch, hslot, hc]
  | some x => simp only [Port.replayAndDispatch, hslot, hc, if_neg (hx x hslot)]

end Replay

/-! ### The end of a write phase (R149) -/

section Ends
variable {s : State} {f : List Byte} {o : Bool}

theorem State.examine_checkFail (h : frameCheckOk f o = false) :
    s.examine f o = (s.plant, .answered (replyFrame (f.getD 1 0) .checkFail [])) := by
  simp [State.examine, h]

theorem State.examine_notClient (h : frameCheckOk f o = true) (hn : s.plant.senderOf (f.getD 0 0) = none) :
    s.examine f o = (s.plant, .answered (replyFrame (f.getD 1 0) .notClient [])) := by
  simp only [State.examine, h, hn]
  rfl

theorem State.examine_sender (h : frameCheckOk f o = true) {snd : Sender}
    (hn : s.plant.senderOf (f.getD 0 0) = some snd) :
    s.examine f o = (s.plant.restartWindow snd, s.port.replayAndDispatch snd f) := by
  simp only [State.examine, h, hn]
  rfl

theorem State.writePhaseEnd_taken (h : s.inReset = false) (hrx : s.port.state = .rx) (hheld : s.port.held = none)
    (e : PhaseEnd) : exec (.writePhaseEnd e) s = .next (s.endWritePhase e) :=
  (State.taking_run h _).trans (by rw [if_pos ⟨hrx, hheld⟩])

theorem State.endWritePhase_answered {p : Plant} {reply : List Byte}
    (hx : s.examine s.port.buffer s.port.overLength = (p, .answered reply)) (e : PhaseEnd) :
    s.endWritePhase e = { s with plant := p, port := s.port.endWriteAnswered e reply } := by
  simp only [State.endWritePhase, hx]
  rfl

theorem State.endWritePhase_unknown {p : Plant} {snd : Sender} {reply : List Byte}
    (hx : s.examine s.port.buffer s.port.overLength = (p, .unknown snd reply)) (e : PhaseEnd) :
    s.endWritePhase e =
      { s with plant := p, port := (s.port.keep snd s.port.buffer reply).endWriteAnswered e reply } := by
  simp only [State.endWritePhase, hx]
  rfl

theorem State.endWritePhase_handed {p : Plant} {h : Handed}
    (hx : s.examine s.port.buffer s.port.overLength = (p, .handedOver h)) (e : PhaseEnd) :
    s.endWritePhase e =
      { s with plant := p
               port := ({ s.port with handling := true, handed := some h } : Port).endWriteHanded e } := by
  simp only [State.endWritePhase, hx]
  rfl

/-- From RX the port goes IDLE and keeps the mark of a RESTART's exchange, which only a read phase ends (R165). -/
theorem Port.toIdle_rx {t : Port} (h : t.state = .rx) : t.toIdle =
    { t with state := .idle, timer := none, inHand := none, position := 0, stopped := false, held := none } := by
  have hreply : (if t.state = .tx then false else t.restartReply) = t.restartReply := if_neg (by simp [h])
  rw [Port.toIdle, hreply]

theorem Port.keep_frame (t : Port) (snd : Sender) (frame reply : List Byte) :
    (t.keep snd frame reply).state = t.state ∧ (t.keep snd frame reply).held = t.held := by
  cases snd <;> exact ⟨rfl, rfl⟩

/-- A reply that is in hand at once is sent after a repeated START that reads, and changes no other end of the phase. -/
theorem Port.endWriteAnswered_eq (t : Port) (e : PhaseEnd) (reply : List Byte) :
    t.endWriteAnswered e reply = if e = .restartRead then t.send .tx reply else t.endWriteHanded e := by
  cases e <;> rfl

theorem Port.endWriteHanded_eq (t : Port) (e : PhaseEnd) :
    t.endWriteHanded e = if e = .restartRead then { t with state := .exec, acked := true } else t.endWriteHanded e := by
  cases e <;> rfl

end Ends

/-! ### The return of the owning block (R150, R159, R160) -/

section Return
variable {s : State} {reply : List Byte}

theorem State.takeReplyInHand_exec (h : s.port.state = .exec) : s.takeReplyInHand reply =
    { s with port := { s.port with
      state := .tx, inHand := some reply, position := 0, stopped := false, acked := true, handling := false
      built := none } } := if_pos h

/-- Outside EXEC the reply is not sent, and a write address byte that waited is acknowledged. -/
theorem State.takeReplyInHand_unsent (h : s.port.state ≠ .exec) (hheld : s.port.held ≠ some .read)
    (hx : s.restartExchange = false) : s.takeReplyInHand reply =
      { s with port := { s.port with
        handling := false, built := none, held := none
        acked := if s.port.held = some .write then true else s.port.acked } } := by
  rw [State.takeReplyInHand, if_neg h, hx]
  cases hh : s.port.held with
  | none => exact congrArg s.setPort (by rw [if_neg nofun, ← hh])
  | some x =>
    cases x with
    | read => exact absurd hh hheld
    | write => rfl

end Return

end Sys2Proof.Machine

open Sys2Proof Sys2Proof.Machine in
/-- Settles O55: what a frame comes to by its checks, its sender, the replay check and its code, each with what the end
of the phase makes of the port; then the return of the owning block. -/
theorem frameIsCheckedDispatchedAndAnswered : Obligations.FrameIsCheckedDispatchedAndAnswered := by
  refine ⟨?received, ?replied, rfl⟩
  case received =>
    intro s e h hrx hheld f passes holdsId bare leaves sent
    have hpasses : frameCheckOk f s.port.overLength = true ↔ passes := frameCheckOk_iff f _
    have hexec {t : State} (ht : s.endWritePhase e = t) : exec (.writePhaseEnd e) s = .next t := by
      rw [State.writePhaseEnd_taken h hrx hheld, ht]
    have hleaves {t : Port} (ht : t.state = .rx) (he : e ≠ .restartRead) : t.endWriteHanded e = leaves t := by
      cases e with
      | restartRead => exact absurd rfl he
      | restartWrite => rfl
      | restartOther => rw [Port.endWriteHanded, Port.toIdle_rx ht]
      | stop => rw [Port.endWriteHanded, Port.toIdle_rx ht]
    have hchoice {t x y : Port} (ht : t.state = .rx) (hxy : x = y) :
        (if e = .restartRead then x else t.endWriteHanded e) = if e = .restartRead then y else leaves t := by
      split
      next => exact hxy
      next he => exact hleaves ht he
    have hsent {p : Plant} {t : Port} {reply : List Byte} (ht : t.state = .rx)
        (hx : s.endWritePhase e = { s with plant := p, port := t.endWriteAnswered e reply }) : sent p t reply := by
      refine hexec (hx.trans ?_)
      rw [Port.endWriteAnswered_eq, hchoice ht rfl]
      rfl
    refine ⟨fun hno => ?checkFail, fun hyes h0 hnone => ?notClient, fun snd hyes hsnd => ?known⟩
    case checkFail =>
      have hfail : frameCheckOk f s.port.overLength = false := by rw [← Bool.not_eq_true]; exact hpasses.not.mpr hno
      exact hsent hrx (State.endWritePhase_answered (State.examine_checkFail hfail) e)
    case notClient =>
      exact hsent hrx (State.endWritePhase_answered
        (State.examine_notClient (hpasses.mpr hyes) (Plant.senderOf_none h0 hnone)) e)
    case known =>
      intro p slot kept
      have hsender : s.plant.senderOf (f.getD 0 0) = some snd := by
        cases snd with
        | supervisor =>
          have h0 : f.getD 0 0 = 0 := hsnd
          rw [h0, Plant.senderOf_supervisor]
        | client c =>
          obtain ⟨h0, hc, hfirst⟩ := hsnd
          exact Plant.senderOf_client h0 hc hfirst
      have hp : s.plant.restartWindow snd = p := by
        cases snd with
        | supervisor => rfl
        | client c => exact s.plant.restartWindow_client c
      have hslot : s.port.slotOf snd = slot := by cases snd <;> rfl
      have hexamine {x : Handling} (hx : s.port.replayAndDispatch snd f = x) :
          s.examine s.port.buffer s.port.overLength = (p, x) := by
        rw [State.examine_sender (hpasses.mpr hyes) hsender, hp, hx]
      refine ⟨fun x hx hseq hreq => ?again, fun x hx hseq hreq => ?seqReuse, fun hfresh => ?fresh⟩
      case again =>
        exact hsent hrx (State.endWritePhase_answered (hexamine (Port.replay_repeat (hslot.trans hx) hseq hreq)) e)
      case seqReuse =>
        exact hsent hrx (State.endWritePhase_answered (hexamine (Port.replay_seqReuse (hslot.trans hx) hseq hreq)) e)
      case fresh =>
        intro codes
        have hcodes : codes = allRequests.map fun r => (r.code, r) := rfl
        rw [← hslot] at hfresh
        refine ⟨fun hcode => ?unknown, fun r hr => ?handed⟩
        case unknown =>
          have hnone : Request.ofCode (f.getD 2 0) = none := Request.ofCode_none (by
            rw [hcodes, List.map_map] at hcode
            exact hcode)
          have hx := State.endWritePhase_unknown (hexamine (Port.dispatch_unknown hfresh hnone)) e
          have hkept := hsent ((s.port.keep_frame snd f _).1.trans hrx) hx
          cases snd <;> exact hkept
        case handed =>
          intro t
          have hknown : Request.ofCode (f.getD 2 0) = some r := by
            rw [hcodes] at hr
            obtain ⟨r', -, hr'⟩ := List.mem_map.mp hr
            obtain ⟨hcode, rfl⟩ := Prod.mk.inj hr'
            rw [← hcode, Request.ofCode_code]
          have hx := State.endWritePhase_handed (hexamine (Port.dispatch_known hfresh hknown)) e
          obtain ⟨-, hlength, -⟩ := hyes
          rw [framePayload_eq hlength] at hx
          refine hexec (hx.trans ?_)
          change { s with plant := p, port := t.endWriteHanded e } = _
          rw [Port.endWriteHanded_eq, hchoice (t := t) hrx rfl]
  case replied =>
    intro s h b hreset hhanded front reply
    have hport : (s.answered h.request h.sender h.payload b).port =
        { s.port.keep h.sender h.frame reply with
          handed := none, built := some reply, restartReply := decide (h.request = .restart ∧ b.status = .ok) } :=
      Port.takeReturn_handed s.port h b hhanded
    have hslot (x : Sender) : (s.answered h.request h.sender h.payload b).port.slotOf x =
        if x = h.sender then some { sequence := h.frame.getD 1 0, request := h.frame, reply := reply }
        else s.port.slotOf x := by
      rw [hport, ← Port.slotOf_setSlot s.port h.sender x]
      cases x <;> rfl
    obtain ⟨hstate, hheld⟩ : (s.answered h.request h.sender h.payload b).port.state = s.port.state
        ∧ (s.answered h.request h.sender h.payload b).port.held = s.port.held := by
      rw [hport]
      exact s.port.keep_frame h.sender h.frame reply
    have hbuilt : (s.answered h.request h.sender h.payload b).port.built = some reply := by rw [hport]
    have htaken := State.replyInHand_taken (s := s.answered h.request h.sender h.payload b) hreset hbuilt
    refine ⟨_, rfl, (hslot _).trans (if_pos rfl), fun x hx => (hslot x).trans (if_neg hx), hbuilt, by rw [hport],
      fun hexec => ?sent, fun hexec hread hx => ?unsent⟩
    case sent => rw [htaken, State.takeReplyInHand_exec (hstate.trans hexec)]
    case unsent =>
      have hrestart : (s.answered h.request h.sender h.payload b).restartExchange = false := by
        rw [← Bool.not_eq_true, State.restartExchange, Bool.and_eq_true]
        exact hx
      rw [htaken, State.takeReplyInHand_unsent (by rw [hstate]; exact hexec) (by rw [hheld]; exact hread) hrestart,
        hheld]
end

section
/-! Writing, abandoning a phase and the resets at the port (R148, R162, R163, R165, R173 to R177): what each row does to
the port, and the ends of an accepted RESTART's exchange. -/

namespace Sys2Proof.Machine

/-! ### The write phase (R148) -/

section Writing
variable {t : Port}

theorem Port.takeByte_stored (hl : t.buffer.length < 24) (ho : t.overLength = false) (b : Byte) :
    t.takeByte b = { t with buffer := t.buffer ++ [b], acked := true } := by
  have hl : t.buffer.length < Config.frameBufferBytes := hl
  simp [Port.takeByte, hl, ho]

theorem Port.takeByte_overLength (h : 24 ≤ t.buffer.length ∨ t.overLength = true) (b : Byte) :
    t.takeByte b = { t with overLength := true, acked := false } := by
  have hfull : ¬((t.buffer.length < Config.frameBufferBytes && !t.overLength) = true) := by
    rcases h with hl | ho
    · have hl : Config.frameBufferBytes ≤ t.buffer.length := hl
      simp [Nat.not_lt.mpr hl]
    · simp [ho]
  rw [Port.takeByte, if_neg hfull]

/-- SCL is held after the address byte of a write phase exactly while the frame before it is handled (R148). -/
theorem Port.beginWrite_sclLow (t : Port) : t.beginWrite.sclLow = t.handling := by
  cases h : t.handling <;> simp [Port.sclLow, Port.beginWrite, h]

end Writing

/-! ### An abandoned phase (R162, R163) -/

theorem Port.toIdle_sclLow (t : Port) : t.toIdle.sclLow = false := rfl

/-- Outside RX there is no frame to discard. -/
theorem Port.discard_of_ne {t : Port} (h : t.state ≠ .rx) : t.discard = t := if_neg h

/-- A frame with its owning block and the reply slots outlast the phase (R162, R163). -/
theorem Port.discard_frame (t : Port) : t.discard.handling = t.handling ∧ t.discard.handed = t.handed
    ∧ t.discard.built = t.built ∧ t.discard.supervisorSlot = t.supervisorSlot
    ∧ t.discard.clientSlots = t.clientSlots := by
  unfold Port.discard
  split <;> exact ⟨rfl, rfl, rfl, rfl, rfl⟩

/-- Only the read phase of an accepted RESTART's reply ends that exchange, so elsewhere its mark stays (R165). -/
theorem Port.toIdle_of_ne_tx {t : Port} (h : t.state ≠ .tx) : t.toIdle =
    { t with state := .idle, timer := none, inHand := none, position := 0, stopped := false, held := none } := by
  rw [Port.toIdle, if_neg h]

section Rows
variable {s : State}

theorem State.startOwnWrite_taken (h : s.inReset = false) (hst : s.port.state = .idle) :
    exec .startOwnWrite s = .next (s.setPort s.port.beginWrite) :=
  (State.taking_run h _).trans (by rw [if_pos hst])

theorem State.writeByte_taken (h : s.inReset = false) (hrx : s.port.state = .rx) (hheld : s.port.held = none)
    (b : Byte) : exec (.writeByte b) s = .next (s.setPort (s.port.takeByte b)) :=
  (State.taking_run h _).trans (by rw [if_pos ⟨hrx, hheld⟩])

theorem State.busError_taken (h : s.inReset = false)
    (hbus : (s.port.state = .rx ∧ s.port.held = none) ∨ s.port.reading = true) :
    exec .busError s = .next (s.orRestart (s.setPort s.port.discard.toIdle)) :=
  (State.taking_run h _).trans (by rw [if_pos hbus])

theorem State.exchangeTimerExpiry_taken (h : s.inReset = false) (ht : s.port.timer.isSome = true) :
    exec .exchangeTimerExpiry s = .next (s.orRestart (s.setPort s.port.discard.toIdle)) :=
  (State.taking_run h _).trans (by rw [if_pos ht])

/-! ### Resets (R165, R173, R175) -/

theorem State.endReset_eq_afterReset (s : State) (cause : ResetCause) : s.endReset cause = s.afterReset cause := rfl

theorem State.restartReset_taken (h : s.inReset = false) (hp : s.ctl.restartPending = true)
    (hr : s.port.restartReply = false) : exec .restartReset s = .next (s.endReset .restart) :=
  (State.taking_run h _).trans (by rw [hp, hr]; rfl)

/-- The read phase of an accepted RESTART's reply ends in the reset, whatever else would follow (R165, R173). -/
theorem State.orRestart_reset (htx : s.port.state = .tx) (hx : s.restartExchange = true) (t : State) :
    s.orRestart t = s.endReset .restart := if_pos ⟨htx, hx⟩

/-- Outside EXEC the reply to an accepted RESTART is not sent, and the reset comes with it (R165). -/
theorem State.takeReplyInHand_restart (hst : s.port.state ≠ .exec) (hx : s.restartExchange = true)
    (reply : List Byte) : s.takeReplyInHand reply = s.endReset .restart := by
  rw [State.takeReplyInHand, if_neg hst, if_pos hx]

end Rows

theorem State.inReset_of_resetnLow {s : State} (h : s.pins.resetnHigh = false) : s.inReset = true := by
  simp [State.inReset, h]

theorem State.inReset_of_supplyInvalid {s : State} (h : s.pins.supplyOk = false) : s.inReset = true := by
  simp [State.inReset, h]

theorem State.inReset_of_powerOnPending {s : State} (h : s.ctl.powerOnPending = true) : s.inReset = true := by
  simp [State.inReset, h]

/-- At the reset values no channel has a phase slot, so every gate is low (R100, R174). -/
theorem State.gateHigh_reset {s : State} (h : s.plant = Plant.reset) (n : ChannelIx) : s.gateHigh n = false := by
  rw [State.gateHigh, h, Plant.chan_reset]
  rfl

/-- At the reset values no client is ACTIVE, so ALERTn is released (R141, R174). -/
theorem State.alertLow_reset {s : State} (h : s.plant = Plant.reset) : s.alertLow = false := by
  simp [State.alertLow, h, Plant.alertLow, Client.reset]

end Sys2Proof.Machine

open Sys2Proof Sys2Proof.Machine in
/-- Settles O54: the port after each of the two rows of a write phase. -/
theorem writePhaseStoresTwentyFourBytes : Obligations.WritePhaseStoresTwentyFourBytes := by
  intro s h
  refine ⟨fun hst => ⟨_, State.startOwnWrite_taken h hst, ?begins⟩,
    fun hrx hheld b => ⟨fun hl ho => ?stored, fun hfull => ?overLength⟩⟩
  case begins => exact ⟨rfl, rfl, rfl, rfl, rfl, s.port.beginWrite_sclLow, rfl, rfl, rfl, rfl⟩
  case stored => rw [State.writeByte_taken h hrx hheld, Port.takeByte_stored hl ho]; rfl
  case overLength => rw [State.writeByte_taken h hrx hheld, Port.takeByte_overLength hfull]; rfl

open Sys2Proof Sys2Proof.Machine in
/-- Settles O59: both rows bring the port to IDLE with its frame discarded, since no RESTART is answered. -/
theorem busErrorAndTimerAbandonTheExchange : Obligations.BusErrorAndTimerAbandonTheExchange := by
  intro s cmd h hrestart hcmd
  have hexec : exec cmd s = .next (s.setPort s.port.discard.toIdle) := by
    rw [← State.orRestart_none (s := s) (fun _ => hrestart) (s.setPort _)]
    rcases hcmd with ⟨rfl, hheld, hst⟩ | ⟨rfl, ht⟩
    · refine State.busError_taken h ?_
      rcases hst with hrx | hread
      · exact .inl ⟨hrx, hheld⟩
      · exact .inr (Port.reading_iff.mpr ⟨hread, hheld⟩)
    · exact State.exchangeTimerExpiry_taken h ht
  have hbuffer (hrx : s.port.state = .rx) : s.port.discard.buffer = [] := by rw [Port.discard, if_pos hrx]
  exact ⟨_, hexec, rfl, rfl, rfl, rfl, Port.toIdle_sclLow _, hbuffer, s.port.discard_frame⟩

open Sys2Proof Sys2Proof.Machine in
/-- Settles O15: RESETn and start-up by their pins; a RESTART by where its exchange stands. -/
theorem everyResetEndsWithTheResetValues : Obligations.EveryResetEndsWithTheResetValues := by
  intro s
  refine ⟨fun hlow hok hpower => ?pin, fun hok hhigh hpower => ?startup,
    fun h hp hr => State.restartReset_taken h hp hr, fun h hp hr => ?restart⟩
  case pin =>
    have hrun : ({ s with pins := { s.pins with resetnHigh := true } } : State).inReset = false := by
      simp [State.inReset, hok, hpower]
    change execResetnRises s = _
    simp only [execResetnRises, hlow, hrun]
    rfl
  case startup =>
    change execStartupEnd s = _
    simp only [execStartupEnd, hok, hhigh, hpower]
    rfl
  case restart =>
    have hx : s.restartExchange = true := by simp [State.restartExchange, hr, hp]
    have hreset {cmd : Instr} {t : State} (htx : s.port.state = .tx) (hcmd : exec cmd s = .next (s.orRestart t)) :
        exec cmd s = .next (s.afterReset .restart) := by
      rw [hcmd, State.orRestart_reset htx hx, State.endReset_eq_afterReset]
    refine ⟨fun htx hheld => ?reading, fun htx ht => hreset htx (State.exchangeTimerExpiry_taken h ht),
      fun hst hb => ?unsent, fun hst ht => ?executing⟩
    case reading =>
      have hread : s.port.reading = true := Port.reading_iff.mpr ⟨.inl htx, hheld⟩
      exact ⟨fun e => hreset htx (State.readPhaseEnd_taken h hread e), hreset htx (State.bareRead_reading h hread),
        hreset htx (State.busError_taken h (.inr hread))⟩
    case unsent =>
      obtain ⟨reply, hb⟩ := Option.isSome_iff_exists.mp hb
      rw [State.replyInHand_taken h hb, State.takeReplyInHand_restart hst hx, State.endReset_eq_afterReset]
    case executing =>
      have hrx : s.port.state ≠ .rx := by simp [hst]
      have htx : s.port.state ≠ .tx := by simp [hst]
      rw [State.exchangeTimerExpiry_taken h ht, State.orRestart, if_neg fun hc => htx hc.1, Port.discard_of_ne hrx,
        Port.toIdle_of_ne_tx htx]
      rfl

open Sys2Proof Sys2Proof.Machine in
/-- Settles O17: an assertion leaves the blocks at their reset values and the part held, and the two rows that let
start-up begin write their pin alone. -/
theorem assertedResetSilencesThePart : Obligations.AssertedResetSilencesThePart := by
  intro s
  refine ⟨fun hhigh => ⟨_, if_pos hhigh, rfl, State.inReset_of_resetnLow rfl, State.gateHigh_reset rfl,
      State.alertLow_reset rfl, rfl, rfl, rfl, rfl⟩,
    fun hok => ⟨_, if_pos hok, rfl, State.inReset_of_supplyInvalid rfl, rfl, State.gateHigh_reset rfl,
      State.alertLow_reset rfl, rfl, rfl, rfl⟩, rfl, fun hlow hwait => ?rises⟩
  have hheld : ({ s with pins := { s.pins with resetnHigh := true } } : State).inReset = true := by
    rcases hwait with hpower | hok
    · exact State.inReset_of_powerOnPending hpower
    · exact State.inReset_of_supplyInvalid hok
  refine ⟨_, ?_, rfl, hheld⟩
  change execResetnRises s = _
  simp only [execResetnRises, hlow, hheld]
  rfl
end

section
/-! The frame check byte (R155): the register's shift in numbers, and that neither a shift nor a byte merges two
register values. -/

namespace Sys2Proof.Machine

/-! ### One shift -/

/-- The bit shifted out is bit 7, and a shift to the left doubles the register, in eight bits. -/
theorem crcShift_eq (r : Byte) : crcShift r =
    if 128 ≤ r.toNat then BitVec.ofNat 8 (2 * r.toNat) ^^^ 0x1D#8 else BitVec.ofNat 8 (2 * r.toNat) := by
  have hdouble : r <<< 1 = BitVec.ofNat 8 (2 * r.toNat) := by
    apply BitVec.eq_of_toNat_eq
    simp [Nat.shiftLeft_eq, Nat.mul_comm]
  simp only [crcShift, BitVec.msb_eq_decide, decide_eq_true_eq, hdouble]

/-- The register before a shift. The polynomial is odd and a doubled register even, so bit 0 tells whether the
polynomial was combined. -/
def crcUnshift (r : Byte) : Byte := if r.getLsbD 0 then (r ^^^ 0x1D#8) >>> 1 ||| 0x80#8 else r >>> 1

theorem crcUnshift_crcShift : ∀ r : Byte, crcUnshift (crcShift r) = r := by decide

theorem crcShift_injective : Function.Injective crcShift := Function.LeftInverse.injective crcUnshift_crcShift

/-! ### One byte, and a run of bytes -/

theorem crcByte_eq_iterate (r b : Byte) : crcByte r b = crcShift^[8] (r ^^^ b) := rfl

/-- Register values that differ stay apart under the same byte. -/
theorem crcByte_left_injective (b : Byte) : Function.Injective fun r => crcByte r b := fun r s h => by
  have hxor : r ^^^ b = s ^^^ b := crcShift_injective.iterate 8 h
  simpa using hxor

/-- Different bytes take the same register value apart. -/
theorem crcByte_right_injective (r : Byte) : Function.Injective (crcByte r) := fun a b h => by
  have hxor : r ^^^ a = r ^^^ b := crcShift_injective.iterate 8 h
  simpa using hxor

theorem crcRun_injective (bytes : List Byte) : Function.Injective fun r => bytes.foldl crcByte r := by
  induction bytes with
  | nil => exact fun _ _ h => h
  | cons b bytes ih => exact fun _ _ h => crcByte_left_injective b (ih h)

theorem crc8_append (xs ys : List Byte) : crc8 (xs ++ ys) = ys.foldl crcByte (crc8 xs) := List.foldl_append

/-- The check value that R155 quotes. -/
theorem crc8_digits : crc8 [0x31, 0x32, 0x33, 0x34, 0x35, 0x36, 0x37, 0x38, 0x39] = 0xB4#8 := by
  simp [crc8, crcByte, crcShift_eq]

/-! ### Frames -/

theorem frameCheckOk_last {bytes : List Byte} {b : Byte} {mark : Bool} (h : frameCheckOk (bytes ++ [b]) mark = true) :
    b = crc8 bytes := by
  simp only [frameCheckOk, Bool.and_eq_true, beq_iff_eq, List.getLastD_concat, List.dropLast_concat] at h
  obtain ⟨-, hlast⟩ := h
  exact hlast

end Sys2Proof.Machine

open Sys2Proof Sys2Proof.Machine in
/-- Settles O60: a damaged byte takes the register apart where it stands, and the bytes behind it keep it so. -/
theorem frameCheckByteIsTheCrcOfTheFrame : Obligations.FrameCheckByteIsTheCrcOfTheFrame := by
  unfold Obligations.FrameCheckByteIsTheCrcOfTheFrame
  intro shift
  have hshift : crcShift = shift := funext crcShift_eq
  refine ⟨rfl, fun bytes b => ?next, crc8_digits, fun _ _ _ => frameCheckOk_last, fun _ _ _ => ⟨_, rfl⟩,
    fun _ => ⟨_, rfl⟩, fun pre post a b hab h => hab ?damaged⟩
  case next => rw [crc8_append, ← hshift]; rfl
  case damaged =>
    rw [crc8_append, crc8_append] at h
    exact crcByte_right_injective _ (crcRun_injective post h)
end

section
/-! What every command leaves as it was: it answers a next state, the waiting commands stay (R158), and the port stays
shaped (08 section 8.2). -/

namespace Sys2Proof.Machine

/-! ### The port's operations -/

/-- What a shaped port's buffer and handling show whatever the port's state and timer are. -/
structure Port.Handles (t : Port) : Prop where
  buffer : t.buffer.length ≤ Config.frameBufferBytes
  handling : t.handling = true ↔ t.handed.isSome = true ∨ t.built.isSome = true
  once : ¬(t.handed.isSome = true ∧ t.built.isSome = true)

theorem Port.shaped_reset (k : Nat) : (Port.reset k).shaped := by simp [Port.shaped, Port.reset]

theorem Port.shaped_setSlot {t : Port} (h : t.shaped) (x : Sender) (v : Option ReplySlot) : (t.setSlot x v).shaped := by
  cases x <;> exact h

section Handles
variable {t : Port}

theorem Port.shaped.handles (h : t.shaped) : t.Handles := by
  obtain ⟨hbuffer, -, hhandling, honce, -⟩ := h
  exact ⟨hbuffer, hhandling, honce⟩

/-- Only these fields matter. -/
theorem Port.Handles.congr {u : Port} (h : t.Handles) (hbuffer : u.buffer = t.buffer) (hh : u.handling = t.handling)
    (hhanded : u.handed = t.handed) (hbuilt : u.built = t.built) : u.Handles := by
  refine ⟨by rw [hbuffer]; exact h.buffer, ?_, ?_⟩
  · rw [hh, hhanded, hbuilt]; exact h.handling
  · rw [hhanded, hbuilt]; exact h.once

theorem Port.Handles.toIdle (h : t.Handles) : t.toIdle.shaped :=
  ⟨h.buffer, by simp [Port.toIdle], h.handling, h.once, nofun, nofun, nofun, nofun, nofun, nofun, nofun⟩

theorem Port.Handles.discard (h : t.Handles) : t.discard.Handles := by
  unfold Port.discard
  split
  next => exact ⟨Nat.zero_le _, h.handling, h.once⟩
  next => exact h

/-- A write phase begins with its address byte held exactly while a frame is handled (R148). -/
theorem Port.Handles.beginWrite (h : t.Handles) : t.beginWrite.shaped := by
  have hheld : t.beginWrite.held = if t.handling then some .write else none := rfl
  refine ⟨Nat.zero_le _, by simp [Port.beginWrite], h.handling, h.once, nofun, ?_, fun _ => rfl, ?_, fun _ => ?_,
    nofun, nofun⟩
  all_goals rw [hheld]; cases hh : t.handling <;> simp [Port.beginWrite, hh]

/-- A frame is sent with the timer running and no address byte held (R150, R152). -/
theorem Port.Handles.send (h : t.Handles) (ht : t.timer.isSome = true) (hheld : t.held = none) {st : PortState}
    (hst : st = .tx ∨ st = .summary) (frame : List Byte) : (t.send st frame).shaped := by
  have hs : (t.send st frame).state = st := rfl
  have hnone : (t.send st frame).held = none := hheld
  refine ⟨h.buffer, ?_, h.handling, h.once, ?_, ?_, ?_, ?_, ?_, fun _ => rfl, fun _ _ => rfl⟩
  · exact iff_of_true ht (by rcases hst with rfl | rfl <;> simp [hs])
  all_goals rcases hst with rfl | rfl <;> simp [hs, hnone]

/-- A write phase that ends with its request at the owning block (R149, R150). -/
theorem Port.Handles.endWriteHanded (h : t.Handles) (ht : t.timer.isSome = true) (hheld : t.held = none)
    (hh : t.handling = true) (e : PhaseEnd) : (t.endWriteHanded e).shaped := by
  cases e with
  | restartRead =>
    refine ⟨h.buffer, iff_of_true ht nofun, h.handling, h.once, fun _ => hh, fun _ => hh, ?_, ?_, nofun, nofun,
      nofun⟩
    all_goals simp [Port.endWriteHanded, hheld]
  | restartWrite => exact h.beginWrite
  | restartOther => exact h.toIdle
  | stop => exact h.toIdle

theorem Port.Handles.endWriteAnswered (h : t.Handles) (ht : t.timer.isSome = true) (hheld : t.held = none)
    (e : PhaseEnd) (reply : List Byte) : (t.endWriteAnswered e reply).shaped := by
  cases e with
  | restartRead => exact h.send ht hheld (.inl rfl) reply
  | restartWrite => exact h.beginWrite
  | restartOther => exact h.toIdle
  | stop => exact h.toIdle

end Handles

section Shaped
variable {t : Port} (h : t.shaped)
include h

theorem Port.shaped.timer (hst : t.state ≠ .idle) : t.timer.isSome = true := by
  obtain ⟨-, htimer, -⟩ := h
  exact htimer.mpr hst

theorem Port.shaped.held_none (hh : t.handling = false) : t.held = none := by
  obtain ⟨-, -, -, -, -, hheld, -⟩ := h
  cases hn : t.held with
  | none => rfl
  | some x => rw [hheld (by simp [hn])] at hh; cases hh

/-- An address byte is held in RX and in SUMMARY only. -/
theorem Port.shaped.held_none_of_state (hrx : t.state ≠ .rx) (hsum : t.state ≠ .summary) : t.held = none := by
  obtain ⟨-, -, -, -, -, -, hwrite, hread, -⟩ := h
  cases hn : t.held with
  | none => rfl
  | some x =>
    cases x with
    | write => exact absurd (hwrite hn) hrx
    | read => exact absurd (hread hn) hsum

theorem Port.shaped.takeByte (b : Byte) : (t.takeByte b).shaped := by
  obtain ⟨hbuffer, hrest⟩ := h
  unfold Port.takeByte
  split
  next hroom =>
    obtain ⟨hl, -⟩ := Bool.and_eq_true_iff.mp hroom
    exact ⟨by simpa using hl, hrest⟩
  next => exact ⟨hbuffer, hrest⟩

theorem Port.shaped.takeAck (ack : Bool) : (t.takeAck ack).shaped := by
  unfold Port.takeAck
  split
  next => exact h
  split <;> exact h

/-- In RX with no address byte held no frame is handled, so one can be handed over (R149, R158). -/
theorem Port.shaped.handOver (hrx : t.state = .rx) (hheld : t.held = none) (x : Handed) :
    ({ t with handling := true, handed := some x } : Port).Handles := by
  obtain ⟨hbuffer, -, hhandling, -, -, -, -, -, hfree, -⟩ := h
  have hbuilt : ¬t.built.isSome = true := fun hb => by
    have hh := hhandling.mpr (.inr hb)
    rw [hfree hrx hheld] at hh
    cases hh
  exact ⟨hbuffer, by simp, fun hc => hbuilt hc.2⟩

/-- The return of the owning block takes the place of the request (R159). -/
theorem Port.shaped.returned (hh : t.handed.isSome = true) (reply : List Byte) (restart : Bool) :
    ({ t with handed := none, built := some reply, restartReply := restart } : Port).shaped := by
  obtain ⟨hbuffer, htimer, hhandling, -, hrest⟩ := h
  exact ⟨hbuffer, htimer, by simp [hhandling.mpr (.inl hh)], by simp, hrest⟩

theorem Port.shaped.takeReturn (r : Request) (snd : Sender) (p : List Byte) (b : BlockReply) :
    (t.takeReturn r snd p b).shaped := by
  unfold Port.takeReturn
  split
  next => exact h
  next x hx =>
    split
    next =>
      refine Port.shaped.returned (t := t.keep snd x.frame _) (Port.shaped_setSlot h snd _) ?_ _ _
      have hkeep : (t.keep snd x.frame (replyFrame x.sequence b.status b.payload)).handed = t.handed := by
        cases snd <;> rfl
      rw [hkeep, hx]
      rfl
    next => exact h

/-- Handling ends when the reply comes into hand (R150). -/
theorem Port.shaped.taken (hb : t.built.isSome = true) :
    ({ t with handling := false, built := none } : Port).Handles := by
  have hhanded : t.handed = none := by
    by_contra hne
    exact h.handles.once ⟨Option.isSome_iff_ne_none.mpr hne, hb⟩
  exact ⟨h.handles.buffer, by simp [hhanded], by simp⟩

theorem Port.shaped.emptySlotFor (c : ClientIx) (x : Client) (form : SetClientForm) :
    (t.emptySlotFor c x form).shaped := by
  cases form with
  | add | change => exact h
  | idChange => exact Port.shaped_setSlot h _ _
  | removal =>
    unfold Port.emptySlotFor
    simp only
    split
    next => exact h
    next => exact Port.shaped_setSlot h _ _

end Shaped

/-! ### What a command keeps -/

/-- From `s` to `t` the waiting commands stay, and a shaped port stays shaped. -/
structure State.KeepsPort (s t : State) : Prop where
  pending : t.pending = s.pending
  shaped : s.port.shaped → t.port.shaped

section Forms
variable {s t : State}

theorem State.KeepsPort.refl (s : State) : s.KeepsPort s := ⟨rfl, id⟩

theorem State.KeepsPort.trans {u : State} (h : s.KeepsPort t) (h' : t.KeepsPort u) : s.KeepsPort u :=
  ⟨h'.pending.trans h.pending, fun hs => h'.shaped (h.shaped hs)⟩

theorem State.KeepsPort.ofPlant (s : State) (p : Plant) : s.KeepsPort (s.setPlant p) := ⟨rfl, id⟩

theorem State.KeepsPort.ofPort {u : Port} (h : s.port.shaped → u.shaped) : s.KeepsPort (s.setPort u) := ⟨rfl, h⟩

theorem State.KeepsPort.recompute (h : s.KeepsPort t) : s.KeepsPort t.recompute := by
  rw [t.recompute_frame]
  exact ⟨h.pending, h.shaped⟩

theorem State.KeepsPort.reset (s : State) (cause : ResetCause) (k : Nat) (b : Bool) :
    s.KeepsPort (s.blocksReset cause k b) := ⟨rfl, fun _ => Port.shaped_reset k⟩

/-- A test of a request either refuses it, and nothing changes, or the request goes on (R178). -/
theorem State.KeepsPort.guard {c : Prop} [Decidable c] {st : Status} {x : State × BlockReply}
    (h : s.KeepsPort x.1) : s.KeepsPort (if c then s.refuse st else x).1 := by
  split
  next => exact .refl s
  next => exact h

/-- A choice whose other branch leaves the state as it is. -/
theorem State.KeepsPort.orSame {c : Prop} [Decidable c] (h : c → s.KeepsPort t) :
    s.KeepsPort (if c then t else s) := by
  split
  next hc => exact h hc
  next => exact .refl s

theorem State.KeepsPort.orRestart (h : s.KeepsPort t) : s.KeepsPort (s.orRestart t) := by
  unfold State.orRestart
  split
  next => exact .reset s _ _ _
  next => exact h

end Forms

/-! ### The requests -/

section Blocks
variable (s : State) (snd : Sender) (p : List Byte)

theorem claim_keepsPort : s.KeepsPort (claim snd p s).1 := by
  unfold claim
  split
  next => exact .refl s
  next =>
    refine .guard ?_
    split
    next => exact .refl s
    next =>
      refine .guard (.guard ?_)
      split
      next => exact .refl s
      next =>
        refine .guard (.guard ?_)
        split
        next => exact .refl s
        next => exact .ofPlant s _

theorem query_keepsPort : s.KeepsPort (query snd p s).1 := by
  unfold query
  split
  next => exact .refl s
  next =>
    refine .guard ?_
    split
    next => exact .refl s
    next => exact .ofPlant s _

theorem reshape_keepsPort : s.KeepsPort (reshape snd p s).1 := by
  unfold reshape
  split
  next => exact .refl s
  next =>
    refine .guard ?_
    split
    next => exact .refl s
    next =>
      refine .guard ?_
      split
      next => exact .refl s
      next =>
        refine .guard (.guard (.guard (.guard (.guard ?_))))
        split
        next => exact .refl s
        next => exact .ofPlant s _

theorem release_keepsPort : s.KeepsPort (release snd p s).1 := by
  unfold release
  split
  next => exact .refl s
  next =>
    refine .guard ?_
    split
    next => exact .refl s
    next => exact .ofPlant s _

theorem State.clearLatch_keepsPort (n : ChannelIx) : s.KeepsPort (s.clearLatch n) := .orSame fun _ => .ofPlant s _

theorem State.clearLatches_keepsPort (terms : List Term) : s.KeepsPort (s.clearLatches terms) := by
  obtain ⟨q, hq, -⟩ := s.clearLatches_acts terms s.lim.effective
  rw [hq]
  exact .ofPlant s q

theorem retry_keepsPort : s.KeepsPort (retry snd p s).1 := by
  unfold retry
  refine .guard ?_
  split
  next => exact .refl s
  next =>
    refine .guard ?_
    split
    next => exact .refl s
    next i _ =>
      refine .guard ?_
      have hclear := s.clearLatches_keepsPort (s.plant.allot i).terms
      simp only
      split
      next => exact hclear
      next => exact hclear.trans (.ofPlant _ _)

theorem scan_keepsPort : s.KeepsPort (scan snd p s).1 := by
  unfold scan
  split
  next => exact .refl s
  next => exact .guard (.ofPlant s _)

theorem join_keepsPort : s.KeepsPort (join snd p s).1 := by
  unfold join
  split
  next => exact .refl s
  next => exact .guard (.ofPlant s _)

theorem leave_keepsPort : s.KeepsPort (leave snd p s).1 := by
  unfold leave
  split
  next => exact .refl s
  next =>
    split
    next => exact .refl s
    next => exact .guard (.ofPlant s _)

theorem ping_keepsPort : s.KeepsPort (ping snd p s).1 := by
  unfold ping
  split
  next => exact .refl s
  next =>
    refine .guard ?_
    split
    next => exact .refl s
    next => exact .ofPlant s _

/-- SET_CLIENT is the one request whose block writes to the port, and there a reply slot only (R133). -/
theorem setClient_keepsPort : s.KeepsPort (setClient snd p s).1 := by
  unfold setClient
  refine .guard (.guard (.guard ?_))
  simp only
  split
  next => exact .refl s
  next => exact ⟨rfl, fun h => h.emptySlotFor _ _ _⟩

theorem setTiming_keepsPort : s.KeepsPort (setTiming snd p s).1 := by
  unfold setTiming
  refine .guard (.guard (.guard ?_))
  split
  next => exact .ofPlant s _
  next => exact .refl s
  next => exact .refl s

theorem clearFault_keepsPort : s.KeepsPort (clearFault snd p s).1 := by
  unfold clearFault
  refine .guard (.guard ?_)
  split
  next => exact .refl s
  next n _ => exact .guard (s.clearLatch_keepsPort n)

theorem blockOf_keepsPort (r : Request) : s.KeepsPort (blockOf r snd p s).1 := by
  cases r with
  | claim => exact claim_keepsPort s snd p
  | query => exact query_keepsPort s snd p
  | reshape => exact reshape_keepsPort s snd p
  | release => exact release_keepsPort s snd p
  | retry => exact retry_keepsPort s snd p
  | scan => exact scan_keepsPort s snd p
  | join => exact join_keepsPort s snd p
  | leave => exact leave_keepsPort s snd p
  | ping => exact ping_keepsPort s snd p
  | setClient => exact setClient_keepsPort s snd p
  | setChannel => exact .guard (.guard (.guard (.guard (.ofPlant s _))))
  | setTiming => exact setTiming_keepsPort s snd p
  | clearFault => exact clearFault_keepsPort s snd p
  | setLimits => exact .guard (.guard (.guard (State.KeepsPort.recompute ⟨rfl, id⟩)))
  | setClasses => exact .guard (.guard (.guard (.ofPlant s _)))
  | commit => exact .guard (.guard (.guard (State.KeepsPort.recompute ⟨rfl, id⟩)))
  | halt => exact .guard (.guard (.guard ⟨rfl, id⟩))
  | restart => exact .guard (.guard ⟨rfl, id⟩)

end Blocks

/-! ### The rows of the port -/

section PortRows
variable (s : State)

theorem State.endWritePhase_keepsPort (hrx : s.port.state = .rx) (hheld : s.port.held = none) (e : PhaseEnd) :
    s.KeepsPort (s.endWritePhase e) := by
  have htimer (h : s.port.shaped) : s.port.timer.isSome = true := h.timer (by simp [hrx])
  unfold State.endWritePhase
  simp only
  split
  next reply _ => exact ⟨rfl, fun h => h.handles.endWriteAnswered (htimer h) hheld e reply⟩
  next snd reply _ =>
    refine ⟨rfl, fun h => ?_⟩
    have hkept : (s.port.keep snd s.port.buffer reply).shaped := Port.shaped_setSlot h snd _
    obtain ⟨hstate, hkheld⟩ := s.port.keep_frame snd s.port.buffer reply
    exact hkept.handles.endWriteAnswered (hkept.timer (by simp [hstate, hrx])) (hkheld.trans hheld) e reply
  next x _ => exact ⟨rfl, fun h => (h.handOver hrx hheld x).endWriteHanded (htimer h) hheld rfl e⟩

theorem State.beginBareRead_keepsPort : s.KeepsPort s.beginBareRead := by
  cases hh : s.port.handling with
  | false =>
    rw [State.beginBareRead_sends hh]
    refine ⟨rfl, fun h => ?_⟩
    have hhandles : ({ s.port with timer := some 50 } : Port).Handles := h.handles.congr rfl rfl rfl rfl
    exact hhandles.send rfl (h.held_none hh) (.inr rfl) s.summaryFrame
  | true =>
    rw [State.beginBareRead_holds hh]
    refine ⟨rfl, fun h => ?_⟩
    have hhandles := h.handles
    exact ⟨hhandles.buffer, iff_of_true rfl nofun, hhandles.handling, hhandles.once, nofun, fun _ => hh, nofun,
      fun _ => rfl, nofun, nofun, fun _ => nofun⟩

theorem State.endReadPhase_keepsPort (e : PhaseEnd) : s.KeepsPort (s.endReadPhase e) := by
  have hidle : s.KeepsPort (s.setPort s.port.toIdle) := .ofPort fun h => h.handles.toIdle
  refine .orRestart ?_
  cases e with
  | restartRead => exact hidle.trans (State.beginBareRead_keepsPort _)
  | restartWrite => exact hidle.trans (.ofPort fun h => h.handles.beginWrite)
  | restartOther => exact ⟨hidle.pending, hidle.shaped⟩
  | stop => exact hidle

/-- The reply comes into hand: it is sent from EXEC; elsewhere what an address byte waits for goes on (R150, R165). -/
theorem State.takeReplyInHand_keepsPort (hb : s.port.built.isSome = true) (reply : List Byte) :
    s.KeepsPort (s.takeReplyInHand reply) := by
  unfold State.takeReplyInHand
  simp only
  split
  next hexec =>
    exact .ofPort fun h => (h.taken hb).send (h.timer (by simp [hexec]))
      (h.held_none_of_state (by simp [hexec]) (by simp [hexec])) (.inl rfl) reply
  next hexec =>
    split
    next => exact .reset s _ _ _
    split
    next hheld =>
      refine .ofPort fun h => ?_
      have htaken := h.taken hb
      obtain ⟨-, htimer, -, -, -, -, -, -, -, htx, hsum⟩ := h
      exact ⟨htaken.buffer, htimer, htaken.handling, htaken.once, fun hc => absurd hc hexec, by simp [hheld],
        by simp [hheld], by simp [hheld], fun _ _ => rfl, htx, hsum⟩
    next hheld =>
      refine .ofPort fun h => ?_
      have htaken := h.taken hb
      obtain ⟨-, htimer, -, -, -, -, hwrite, -⟩ := h
      have hrx : s.port.state = .rx := hwrite hheld
      exact ⟨htaken.buffer, htimer, htaken.handling, htaken.once, fun hc => absurd hc hexec, nofun, nofun, nofun,
        fun _ _ => rfl, by simp [hrx], by simp [hrx]⟩
    next hheld =>
      refine .ofPort fun h => ?_
      have htaken := h.taken hb
      have htimer := h.timer
      obtain ⟨-, -, -, -, -, -, -, hread, -⟩ := h
      have hhandles : ({ s.port with handling := false, built := none, held := none } : Port).Handles :=
        htaken.congr rfl rfl rfl rfl
      exact hhandles.send (htimer (by simp [hread hheld])) rfl (.inr rfl) _

theorem State.abandon_keepsPort : s.KeepsPort (s.orRestart (s.setPort s.port.discard.toIdle)) :=
  .orRestart (.ofPort fun h => h.handles.discard.toIdle)

end PortRows

/-! ### Every command -/

/-- The outcome is a next state that keeps the waiting commands and the port's shape. -/
def State.Answers (s : State) (o : Host.Outcome State Fault Refusal) : Prop := ∃ t, o = .next t ∧ s.KeepsPort t

section Answers
variable {s t : State}

theorem State.Answers.next (h : s.KeepsPort t) : s.Answers (.next t) := ⟨t, rfl, h⟩

theorem State.Answers.same : s.Answers (.next s) := .next (.refl s)

/-- A choice between two outcomes, of which each answers. -/
theorem State.Answers.ite {c : Prop} [Decidable c] {x y : Host.Outcome State Fault Refusal} (hx : s.Answers x)
    (hy : s.Answers y) : s.Answers (if c then x else y) := by
  split
  next => exact hx
  next => exact hy

/-- An event that a part held in reset does not take, after a pin that keeps the queue and the port. -/
theorem State.Answers.takingFrom {f : State → State} (h : s.KeepsPort t) (hf : t.KeepsPort (f t)) :
    s.Answers (t.taking f) := .next <| by
  split
  next => exact h
  next => exact h.trans hf

theorem State.Answers.taking {f : State → State} (hf : s.KeepsPort (f s)) : s.Answers (s.taking f) :=
  .takingFrom (.refl s) hf

/-- A request's row, whoever sends it: its block keeps the port's shape, and so does what the port makes of the return
(R158, R159). -/
theorem State.request_answers (s : State) (r : Request) (snd : Sender) (p : List Byte) :
    s.Answers (s.request r snd p (blockOf r)) := by
  refine .taking ?_
  have hblock : s.KeepsPort (if s.unknownSender snd then s.refuse .notClient else blockOf r snd p s).1 := by
    split
    next => exact .refl s
    next => exact blockOf_keepsPort s snd p r
  exact ⟨hblock.pending, fun h => (hblock.shaped h).takeReturn r snd p _⟩

end Answers

theorem State.derateFalls_keepsPort (s : State) : s.KeepsPort s.derateFalls := by
  unfold State.derateFalls
  split
  next => exact State.KeepsPort.recompute ⟨rfl, id⟩
  next => exact ⟨rfl, id⟩
  next => exact .refl s

theorem State.derateRises_keepsPort (s : State) : s.KeepsPort s.derateRises := by
  unfold State.derateRises
  split
  next =>
    split
    next => exact State.KeepsPort.recompute ⟨rfl, id⟩
    next => exact ⟨rfl, id⟩
  next => exact .refl s
  next => exact .refl s

theorem exec_answers (c : Instr) (s : State) : s.Answers (exec c s) := by
  cases hreq : requestOf c with
  | some x =>
    obtain ⟨r, snd, p⟩ := x
    rw [exec_request hreq]
    exact s.request_answers r snd p
  | none =>
    cases c with
    | restartReset => exact .taking (.orSame fun _ => .reset s _ _ _)
    | startOwnWrite => exact .taking (.orSame fun _ => .ofPort fun h => h.handles.beginWrite)
    | writeByte b => exact .taking (.orSame fun _ => .ofPort fun h => h.takeByte b)
    | writePhaseEnd e => exact .taking (.orSame fun hc => s.endWritePhase_keepsPort hc.1 hc.2 e)
    | replyInHand =>
      change s.Answers (execReplyInHand s)
      unfold execReplyInHand
      refine .taking ?_
      split
      next => exact .refl s
      next reply hb => exact s.takeReplyInHand_keepsPort (by simp [hb]) reply
    | bareRead =>
      change s.Answers (execBareRead s)
      unfold execBareRead
      refine .taking ?_
      split
      next => exact s.beginBareRead_keepsPort
      next => exact .orSame fun _ => s.endReadPhase_keepsPort _
    | readByteAck a => exact .taking (.orSame fun _ => .ofPort fun h => h.takeAck a)
    | readPhaseEnd e => exact .taking (.orSame fun _ => s.endReadPhase_keepsPort e)
    | busError => exact .taking (.orSame fun _ => s.abandon_keepsPort)
    | exchangeTimerExpiry => exact .taking (.orSame fun _ => s.abandon_keepsPort)
    | deratenFalls => exact .ite .same (.takingFrom ⟨rfl, id⟩ (State.derateFalls_keepsPort _))
    | deratenRises => exact .ite (.takingFrom ⟨rfl, id⟩ (State.derateRises_keepsPort _)) .same
    | holdExpiry => exact .taking (.orSame fun _ => State.KeepsPort.recompute ⟨rfl, id⟩)
    | faultInputActive n => exact .ite .same (.takingFrom ⟨rfl, id⟩ (.orSame fun _ => .ofPlant _ _))
    | faultInputInactive n => exact .next ⟨rfl, id⟩
    | resetnFalls => exact .ite (.next ⟨rfl, fun _ => Port.shaped_reset _⟩) .same
    | resetnRises =>
      exact .ite .same (.ite (.next ⟨rfl, id⟩) (.next ⟨rfl, fun _ => Port.shaped_reset _⟩))
    | supplyValid => exact .next ⟨rfl, id⟩
    | supplyFailure => exact .ite (.next ⟨rfl, fun _ => Port.shaped_reset _⟩) .same
    | startupEnd => exact .ite (.next (.reset s _ _ _)) .same
    | frameStart =>
      change s.Answers (execFrameStart s)
      exact .taking (.ofPlant s _)
    | stepFrameStart =>
      change s.Answers (execStepFrameStart s)
      exact .taking (.ofPlant s _)
    | settledReport n =>
      change s.Answers (execSettledReport n s)
      unfold execSettledReport
      refine .taking ?_
      split
      next => exact .refl s
      next => exact ⟨rfl, id⟩
    | runTimerTenth i =>
      change s.Answers (execRunTimerTenth i s)
      exact .taking (.ofPlant s _)
    | runLimitExpiry i => exact .taking (.orSame fun _ => .ofPlant s _)
    | windowExpiry c => exact .taking (.orSame fun _ => .ofPlant s _)
    | frameCountAdvance =>
      change s.Answers (execFrameCountAdvance s)
      exact .taking (.ofPlant s _)
    | _ => cases hreq

end Sys2Proof.Machine

open Sys2Proof Sys2Proof.Machine in
/-- Settles O2: the answer of every command, with its queue. -/
theorem everyCommandAnswersNext : Obligations.EveryCommandAnswersNext := fun c s =>
  have ⟨t, ht, hkeeps⟩ := exec_answers c s
  ⟨t, ht, hkeeps.pending⟩

open Sys2Proof Sys2Proof.Machine in
/-- Settles O12: a step idles, or carries out a command, which keeps the port's shape. -/
theorem exchangePortStaysShaped : Obligations.ExchangePortStaysShaped := by
  intro s t hs h
  unfold step at h
  split at h
  next => cases h; exact hs
  next c rest _ =>
    obtain ⟨u, hu, hkeeps⟩ := exec_answers c { s with pending := rest }
    rw [hu] at h
    cases h
    exact hkeeps.shaped hs
end

section
/-! A part held in reset (R25, R174): an event is not taken, and the pins still follow their levels. -/

namespace Sys2Proof.Machine

/-! ### Pin levels -/

section Pins
variable {s : State} {n : ChannelIx} {low : Bool}

/-- The level of DERATEn is none of those that assert a reset (R176, R177). -/
@[simp] theorem State.setDerateLow_inReset (s : State) (low : Bool) : (s.setDerateLow low).inReset = s.inReset := rfl

@[simp] theorem State.setFaultLow_inReset (s : State) (n : ChannelIx) (low : Bool) :
    (s.setFaultLow n low).inReset = s.inReset := rfl

theorem State.setDerateLow_of_level (h : s.pins.derateLow = low) : s.setDerateLow low = s := by subst h; rfl

theorem State.setFaultLow_of_level (h : s.pins.faultLow[n] = low) : s.setFaultLow n low = s := by
  subst h
  simp [State.setFaultLow]

end Pins

/-! ### The rows of the pins, and of every other event -/

section Held
variable {s : State} (h : s.inReset = true)
include h

theorem execDeratenFalls_held : execDeratenFalls s = .next (s.setDerateLow true) := by
  unfold execDeratenFalls
  split
  next hlow => rw [State.setDerateLow_of_level hlow]
  next => exact State.taking_held ((s.setDerateLow_inReset true).trans h) _

theorem execDeratenRises_held : execDeratenRises s = .next (s.setDerateLow false) := by
  unfold execDeratenRises
  split
  next => exact State.taking_held ((s.setDerateLow_inReset false).trans h) _
  next hhigh => rw [State.setDerateLow_of_level (by simpa using hhigh)]

theorem execFaultInputActive_held (n : ChannelIx) : execFaultInputActive n s = .next (s.setFaultLow n true) := by
  unfold execFaultInputActive
  split
  next hlow => rw [State.setFaultLow_of_level hlow]
  next => exact State.taking_held ((s.setFaultLow_inReset n true).trans h) _

/-- No block carries out a request while a reset is asserted (R174; log entry 26). -/
theorem State.request_held (r : Request) (snd : Sender) (p : List Byte) (f : BlockStep) :
    s.request r snd p f = .next s := State.taking_held h _

end Held

end Sys2Proof.Machine

open Sys2Proof Sys2Proof.Machine in
/-- Settles O3: the rows of DERATEn and of the fault inputs write their pin; every other row but the reset's own is a
taking, which a part held in reset leaves out. -/
theorem partHeldInResetTakesNoEvent : Obligations.PartHeldInResetTakesNoEvent := by
  intro c s h hc
  cases c with
  | deratenFalls => exact execDeratenFalls_held h
  | deratenRises => exact execDeratenRises_held h
  | faultInputActive n => exact execFaultInputActive_held h n
  | faultInputInactive n => rfl
  | resetnFalls | resetnRises | supplyValid | supplyFailure | startupEnd => exact absurd hc (by decide)
  | restartReset | startOwnWrite | writeByte | writePhaseEnd | readByteAck | readPhaseEnd | busError
  | exchangeTimerExpiry | holdExpiry | runLimitExpiry | windowExpiry => exact State.taking_held h _
  | replyInHand | bareRead | frameStart | stepFrameStart | settledReport | runTimerTenth | frameCountAdvance =>
    simp only [exec, execReplyInHand, execBareRead, execFrameStart, execStepFrameStart, execSettledReport,
      execRunTimerTenth, execFrameCountAdvance, State.taking_held h]
  | _ => exact (exec_request rfl s).trans (State.request_held h _ _ _ _)
end

section
/-! Who may send a request, and in which part state (R166, R167): these refusals come before a request's other tests. -/

namespace Sys2Proof.Machine

/-- The row of a request whose owning block refuses it answers the refusal and changes nothing (R178). -/
theorem exec_refused {s : State} (h : s.inReset = false) {snd : Sender}
    (hk : ∀ c, snd = .client c → (s.plant.client c).state ≠ .unset) {cmd : Instr} {r : Request} {p : List Byte}
    {st : Status} (hreq : requestOf cmd = some (r, snd, p)) (hr : blockOf r snd p s = s.refuse st) :
    exec cmd s = .next (s.answered r snd p (.bare st)) := by
  rw [exec_request hreq, State.request_refused h hk hr]

section PartState
variable {s : State} (p : List Byte)

theorem claim_setup (hs : s.ctl.part = .setup) (c : ClientIx) : claim (.client c) p s = s.refuse .notRunning :=
  if_pos (by simp [hs])

theorem reshape_setup (hs : s.ctl.part = .setup) (c : ClientIx) : reshape (.client c) p s = s.refuse .notRunning :=
  if_pos (by simp [hs])

theorem retry_setup (hs : s.ctl.part = .setup) (snd : Sender) : retry snd p s = s.refuse .notRunning :=
  if_pos (by simp [hs])

theorem setChannel_run (hs : s.ctl.part = .run) : setChannel .supervisor p s = s.refuse .notSetup := by
  simp [setChannel, hs]

theorem setTiming_run (hs : s.ctl.part = .run) : setTiming .supervisor p s = s.refuse .notSetup := by
  simp [setTiming, hs]

theorem commit_run (hs : s.ctl.part = .run) : commit .supervisor p s = s.refuse .notSetup := by
  simp [commit, hs]

end PartState

end Sys2Proof.Machine

open Sys2Proof Sys2Proof.Machine in
/-- Settles O19: the sender's test is the first of a reserved request; the part state's is the first of RETRY, and the
second of CLAIM, RESHAPE, SET_CHANNEL, SET_TIMING and COMMIT. -/
theorem senderAndPartStateGateTheRequests : Obligations.SenderAndPartStateGateTheRequests := by
  intro s c p h hc
  have client : ∀ d, Sender.client c = .client d → (s.plant.client d).state ≠ .unset := fun d he => by cases he; exact hc
  have supervisor : ∀ d, Sender.supervisor = .client d → (s.plant.client d).state ≠ .unset := fun d he => by cases he
  refine ⟨fun r hr => ?supervisorOnly, fun r hr => ?clientOnly, fun hs r hr => ?clientInSetup,
    fun hs => exec_refused h supervisor rfl (retry_setup p hs .supervisor), fun hs r hr => ?supervisorInRun⟩
  case supervisorOnly => fin_cases hr <;> exact exec_refused h client rfl rfl
  case clientOnly => fin_cases hr <;> exact exec_refused h supervisor rfl rfl
  case clientInSetup =>
    fin_cases hr
    · exact exec_refused h client rfl (claim_setup p hs c)
    · exact exec_refused h client rfl (reshape_setup p hs c)
    · exact exec_refused h client rfl (retry_setup p hs (.client c))
  case supervisorInRun =>
    fin_cases hr
    · exact exec_refused h supervisor rfl (setChannel_run p hs)
    · exact exec_refused h supervisor rfl (setTiming_run p hs)
    · exact exec_refused h supervisor rfl (commit_run p hs)
end

section
/-! The frame starts up to a step frame start, and the counts up to a frame start (R99, R103). -/

namespace Sys2Proof.Machine

/-- With no stored timing, a frame start that is not a step frame start takes the ramp counter one down (R103). -/
theorem OutputStage.frameStart_countsDown {o : OutputStage} (ht : o.nextTiming = none) (hr : 2 ≤ o.rampCounter) :
    o.frameStart.nextTiming = none ∧ o.frameStart.rampCounter = o.rampCounter - 1 := by
  refine ⟨rfl, ?_⟩
  change o.nextRampCounter = _
  unfold OutputStage.nextRampCounter
  simp only [ht]
  exact if_neg (by omega)

theorem OutputStage.toStepFrame_last {o : OutputStage} (k : Nat) (hr : o.rampCounter ≤ 1) :
    OutputStage.toStepFrame (k + 1) o = o.frameStart := if_pos (decide_eq_true hr)

theorem OutputStage.toStepFrame_more {o : OutputStage} (k : Nat) (hr : 2 ≤ o.rampCounter) :
    OutputStage.toStepFrame (k + 1) o = OutputStage.toStepFrame k o.frameStart :=
  if_neg (by simp only [OutputStage.stepNext, decide_eq_true_eq]; omega)

/-- The ramp counter bounds the frame starts to the next step frame start, so a bound past it lets no more of them
pass. -/
theorem OutputStage.toStepFrame_succ {k : Nat} {o : OutputStage} (ht : o.nextTiming = none)
    (hk : o.rampCounter ≤ k + 1) : OutputStage.toStepFrame (k + 2) o = OutputStage.toStepFrame (k + 1) o := by
  induction k generalizing o with
  | zero => rw [toStepFrame_last _ hk, toStepFrame_last _ hk]
  | succ k ih =>
    rcases Nat.lt_or_ge o.rampCounter 2 with hlast | hmore
    · rw [toStepFrame_last _ (by omega), toStepFrame_last _ (by omega)]
    · obtain ⟨ht', hr'⟩ := o.frameStart_countsDown ht hmore
      rw [toStepFrame_more _ hmore, toStepFrame_more _ hmore, ih ht' (by omega)]

/-- A frame start that is not yet a step frame start leaves the step frame start to come the same one (R103). -/
theorem OutputStage.toStepFrame_frameStart {o : OutputStage} (ht : o.nextTiming = none) (hmore : 2 ≤ o.rampCounter)
    (hmax : o.rampCounter ≤ 128) :
    OutputStage.toStepFrame maxFramesToStep o.frameStart = OutputStage.toStepFrame maxFramesToStep o := by
  obtain ⟨ht', hr'⟩ := o.frameStart_countsDown ht hmore
  calc OutputStage.toStepFrame (127 + 2) o.frameStart
    _ = OutputStage.toStepFrame (127 + 1) o.frameStart := toStepFrame_succ ht' (by omega)
    _ = OutputStage.toStepFrame (128 + 1) o := (toStepFrame_more _ hmore).symm

theorem OutputStage.advance_within {o : OutputStage} (h : o.frameCount < 255) :
    o.advance = { o with frameCount := o.frameCount + 1 } := if_pos (Nat.succ_lt_succ h)

theorem OutputStage.advance_last {o : OutputStage} (h : o.frameCount = 255) : o.advance = o.frameStart :=
  if_neg (by simp [h, Config.frameCounts])

theorem State.stepFrameStart_taken {s : State} (hreset : s.inReset = false) :
    exec .stepFrameStart s = .next (s.onOutput (OutputStage.toStepFrame maxFramesToStep)) := by
  change execStepFrameStart s = _
  exact State.taking_run hreset _

theorem State.frameCountAdvance_taken {s : State} (hreset : s.inReset = false) :
    exec .frameCountAdvance s = .next (s.onOutput OutputStage.advance) := by
  change execFrameCountAdvance s = _
  exact State.taking_run hreset _

@[simp] theorem State.onOutput_inReset (s : State) (f : OutputStage → OutputStage) :
    (s.onOutput f).inReset = s.inReset := rfl

/-- The output stage acts by what it makes of its own block. -/
theorem State.onOutput_congr {s : State} {f g : OutputStage → OutputStage} (h : f s.plant.out = g s.plant.out) :
    s.onOutput f = s.onOutput g := by
  rw [State.onOutput, h, State.onOutput]

theorem State.onOutput_onOutput (s : State) (f g : OutputStage → OutputStage) :
    (s.onOutput f).onOutput g = s.onOutput (g ∘ f) := rfl

end Sys2Proof.Machine

open Sys2Proof Sys2Proof.Machine in
/-- Settles O42: the bound on the frame starts to a step frame start is past every ramp counter, so a frame start before
it leads to the same step frame start; a count advance is a frame start where no count of the frame is left. -/
theorem countsRunUpToTheFrameStart : Obligations.CountsRunUpToTheFrameStart := by
  intro s hreset
  refine ⟨fun hlast => ?stepNow, fun ht hmore hmax => ?stepLater, fun hcount => ?within, fun hcount => ?wraps⟩
  case stepNow =>
    refine ⟨_, ?_, State.frameStart_taken hreset⟩
    rw [State.stepFrameStart_taken hreset, maxFramesToStep,
      State.onOutput_congr (OutputStage.toStepFrame_last 128 hlast)]
  case stepLater =>
    have hreset' := (s.onOutput_inReset OutputStage.frameStart).trans hreset
    refine ⟨_, _, State.stepFrameStart_taken hreset, State.frameStart_taken hreset, ?_⟩
    rw [State.stepFrameStart_taken hreset', State.onOutput_onOutput]
    exact congrArg _ (State.onOutput_congr (OutputStage.toStepFrame_frameStart ht hmore hmax))
  case within =>
    rw [State.frameCountAdvance_taken hreset, State.onOutput, OutputStage.advance_within hcount]
    rfl
  case wraps =>
    rw [State.frameCountAdvance_taken hreset, State.frameStart_taken hreset,
      State.onOutput_congr (OutputStage.advance_last hcount)]
end

section
/-! The step (log entry 1). -/

namespace Sys2Proof.Machine

/-- A step with a command waiting carries out the front one with the queue's rest. -/
theorem step_pending_cons (c : Instr) (rest : List Instr) (s : State) :
    step { s with pending := c :: rest } = exec c { s with pending := rest } := rfl

/-- A step with no command waiting idles (log entry 1). -/
theorem step_pending_nil {s : State} (h : s.pending = []) : step s = .next s := by
  unfold step
  rw [h]

end Sys2Proof.Machine

open Sys2Proof Sys2Proof.Machine in
/-- Settles O1, by the two equations of the step. -/
theorem stepRunsTheFrontCommand : Obligations.StepRunsTheFrontCommand :=
  ⟨step_pending_cons, fun _ => step_pending_nil⟩
end
